-- ==== Sys2Proof/Word.lean ====
section
/-! DEFINITION. The word types: 8-bit CPU data and registers, 16-bit CPU addresses (R8). -/

namespace Sys2Proof

/-- A CPU register, a data byte (R8: the CPU data and register width is 8 bits). -/
abbrev Byte := BitVec 8

/-- A CPU address or a 16-bit operand (R8: the CPU address width and PC are 16 bits). -/
abbrev Word := BitVec 16

end Sys2Proof
end

