-- ==== Sys2Proof/Config.lean ====
section
/-! DEFINITION. The implementation parameters of 00_scope.md R8 (a record of plain data with the spec's
defaults) and the uninterpreted constants for what the spec leaves OPEN or without a value. -/

namespace Sys2Proof

/-- `STACK_POLICY` (R8, R124, D9): a push or pull that leaves page $01 faults, or `S` wraps. -/
inductive StackPolicy where
  | fault
  | wrap
  deriving DecidableEq, Repr

/-- `LOW_CART_REGION` (R8, R105, D12): $4020-$7FFF is plain RAM, or reads 0 and ignores writes. -/
inductive LowCartRegion where
  | ram
  | zero
  deriving DecidableEq, Repr

/-- `NOISE_PERIOD_TABLE` (R742), in APU cycles: the spec's default. -/
def defaultNoisePeriods : List Nat :=
  [2, 4, 8, 16, 32, 48, 64, 80] ++ [101, 127, 190, 254, 381, 508, 1017, 2034]

/-- The parameters of R8 that have a default, each under the spec's name. -/
structure Params where
  /-- `WIRED_OPCODES` (R212): the documented opcodes that are NOT wired. The default is none, so the
  wired set is exactly the 151 rows of R204. Bytes outside R204 have no handler in any setting. -/
  unwired : List Byte := []
  /-- `STACK_POLICY` (R124). -/
  stackPolicy : StackPolicy := .fault
  /-- `STACK_CLEAR_ON_POP` (R125). -/
  stackClearOnPop : Bool := false
  /-- `BRK_RETURN_OFFSET` (R440). -/
  brkReturnOffset : Nat := 2
  /-- `NMI_PUSH_B`: bit 4 of the status byte NMI entry pushes (R520). -/
  nmiPushB : Bool := false
  /-- `NMI_ENTRY_CYCLES` (R520). -/
  nmiEntryCycles : Nat := 7
  /-- `RESET_CYCLES` (R900). -/
  resetCycles : Nat := 7
  /-- `BRANCH_PAGE_PENALTY`, 0 or 1 (R267). -/
  branchPagePenalty : Bool := false
  /-- `ZP_POINTER_WRAP` (R262, R263). -/
  zpPointerWrap : Bool := true
  /-- `LOW_CART_REGION` (R105). -/
  lowCartRegion : LowCartRegion := .ram
  /-- `MMC1_MIRRORING_APPLIED` (R179). -/
  mmc1MirroringApplied : Bool := false
  /-- `CHR_RAM_WHEN_NO_CHR` (R163). -/
  chrRamWhenNoChr : Bool := true
  /-- `VBLANK_SET_DOT` (R660). -/
  vblankSetDot : Nat := 1
  /-- `VBLANK_CLEAR_DOT` (R661). -/
  vblankClearDot : Nat := 1
  /-- `OAM_DMA_CYCLES` (R810). -/
  oamDmaCycles : Nat := 513
  /-- `NOISE_PERIOD_TABLE` (R742). -/
  noisePeriods : List Nat := defaultNoisePeriods
  /-- `PULSE_SWEEP_MUTE` (R745). -/
  pulseSweepMute : Bool := false
  /-- `SAMPLE_PERIOD` in CPU cycles (R750). -/
  samplePeriod : Nat := 34
  deriving DecidableEq, Repr

/-- The parameters at the defaults of R8. -/
def Params.default : Params := {}

/-- `FRAME_STEP_CYCLES` (R735): fixed. -/
def frameStepCycles : Nat := 7457

/-- `MIX` (R746, D47): OPEN, a function from the amplitudes of pulse 1, pulse 2, triangle and noise to an
8-bit sample. FREE: uninterpreted, so no proof can use a value of it (log entry 4). -/
opaque Config.mix : BitVec 4 → BitVec 4 → BitVec 4 → BitVec 4 → Byte

/-- `AUDIO_CHUNK` (R751, D48): OPEN, the samples per hand-off. FREE: uninterpreted (log entry 5). -/
opaque Config.audioChunk : Nat

/-- FREE VALUE (log entry 6): the byte a PPU pattern read gives when the cartridge has no CHR memory at all
(no CHR page and `CHR_RAM_WHEN_NO_CHR` false), which the spec does not state. Arguments: the cycle count,
the scanline, the dot and the address of the read. -/
opaque Config.absentChr : Nat → Nat → Nat → Nat → Byte

end Sys2Proof
end

