-- ==== Sys2Proof/Syntax.lean ====
section
/-! DEFINITION. The syntax: the 56 mnemonics, the 13 addressing modes with their operands (R202), and one
constructor of `Instr` per row of the opcode listing R204 (151 rows). -/

namespace Sys2Proof

/-- The mnemonics of R204. -/
inductive Mnemonic where
  | lda | ldx | ldy | sta | stx | sty | tax | tay | txa | tya
  | tsx | txs | pha | php | pla | plp | adc | sbc | and | ora
  | eor | cmp | cpx | cpy | bit | inc | dec | inx | iny | dex
  | dey | asl | lsr | rol | ror | jmp | jsr | rts | bcc | bcs
  | beq | bne | bmi | bpl | bvc | bvs | clc | sec | cli | sei
  | cld | sed | clv | nop | brk | rti
  deriving DecidableEq, Repr

/-- An addressing mode with its operand (R200 to R202): `o8` is the byte after the opcode, `o16` the
little-endian word after it. -/
inductive Operand where
  /-- implied: no operand bytes (R253) -/
  | imp
  /-- accumulator: no operand bytes (R254) -/
  | acc
  /-- immediate (R255) -/
  | imm (o8 : Byte)
  /-- zero page (R256) -/
  | zp (o8 : Byte)
  /-- zero page indexed by X (R257) -/
  | zpx (o8 : Byte)
  /-- zero page indexed by Y (R258) -/
  | zpy (o8 : Byte)
  /-- absolute (R259) -/
  | abs (o16 : Word)
  /-- absolute indexed by X (R260) -/
  | absx (o16 : Word)
  /-- absolute indexed by Y (R261) -/
  | absy (o16 : Word)
  /-- indexed indirect, `(zp,X)` (R262) -/
  | indx (o8 : Byte)
  /-- indirect indexed, `(zp),Y` (R263) -/
  | indy (o8 : Byte)
  /-- indirect absolute, `(nnnn)` (R264) -/
  | ind (o16 : Word)
  /-- relative (R265) -/
  | rel (o8 : Byte)
  deriving DecidableEq, Repr

/-- One entry of the opcode table (R205): the opcode byte, mnemonic, addressing mode with the operand, byte
length, base cycle count and the flag for the extra page-cross cycle. -/
structure Entry where
  opcode : Byte
  mnemonic : Mnemonic
  operand : Operand
  bytes : Nat
  cycles : Nat
  penalty : Bool
  deriving DecidableEq, Repr

/-- The instructions: one constructor per row of R204, named by mnemonic and mode tag, carrying the row's
operand. Every operand bit is used and none is reserved (R211), so each operand is its whole field. -/
inductive Instr where
  | ldaIndx (o8 : Byte)
  | ldaZp (o8 : Byte)
  | ldaImm (o8 : Byte)
  | ldaAbs (o16 : Word)
  | ldaIndy (o8 : Byte)
  | ldaZpx (o8 : Byte)
  | ldaAbsy (o16 : Word)
  | ldaAbsx (o16 : Word)
  | ldxImm (o8 : Byte)
  | ldxZp (o8 : Byte)
  | ldxAbs (o16 : Word)
  | ldxZpy (o8 : Byte)
  | ldxAbsy (o16 : Word)
  | ldyImm (o8 : Byte)
  | ldyZp (o8 : Byte)
  | ldyAbs (o16 : Word)
  | ldyZpx (o8 : Byte)
  | ldyAbsx (o16 : Word)
  | staIndx (o8 : Byte)
  | staZp (o8 : Byte)
  | staAbs (o16 : Word)
  | staIndy (o8 : Byte)
  | staZpx (o8 : Byte)
  | staAbsy (o16 : Word)
  | staAbsx (o16 : Word)
  | stxZp (o8 : Byte)
  | stxAbs (o16 : Word)
  | stxZpy (o8 : Byte)
  | styZp (o8 : Byte)
  | styAbs (o16 : Word)
  | styZpx (o8 : Byte)
  | tax
  | tay
  | txa
  | tya
  | tsx
  | txs
  | pha
  | php
  | pla
  | plp
  | adcIndx (o8 : Byte)
  | adcZp (o8 : Byte)
  | adcImm (o8 : Byte)
  | adcAbs (o16 : Word)
  | adcIndy (o8 : Byte)
  | adcZpx (o8 : Byte)
  | adcAbsy (o16 : Word)
  | adcAbsx (o16 : Word)
  | sbcIndx (o8 : Byte)
  | sbcZp (o8 : Byte)
  | sbcImm (o8 : Byte)
  | sbcAbs (o16 : Word)
  | sbcIndy (o8 : Byte)
  | sbcZpx (o8 : Byte)
  | sbcAbsy (o16 : Word)
  | sbcAbsx (o16 : Word)
  | andIndx (o8 : Byte)
  | andZp (o8 : Byte)
  | andImm (o8 : Byte)
  | andAbs (o16 : Word)
  | andIndy (o8 : Byte)
  | andZpx (o8 : Byte)
  | andAbsy (o16 : Word)
  | andAbsx (o16 : Word)
  | oraIndx (o8 : Byte)
  | oraZp (o8 : Byte)
  | oraImm (o8 : Byte)
  | oraAbs (o16 : Word)
  | oraIndy (o8 : Byte)
  | oraZpx (o8 : Byte)
  | oraAbsy (o16 : Word)
  | oraAbsx (o16 : Word)
  | eorIndx (o8 : Byte)
  | eorZp (o8 : Byte)
  | eorImm (o8 : Byte)
  | eorAbs (o16 : Word)
  | eorIndy (o8 : Byte)
  | eorZpx (o8 : Byte)
  | eorAbsy (o16 : Word)
  | eorAbsx (o16 : Word)
  | cmpIndx (o8 : Byte)
  | cmpZp (o8 : Byte)
  | cmpImm (o8 : Byte)
  | cmpAbs (o16 : Word)
  | cmpIndy (o8 : Byte)
  | cmpZpx (o8 : Byte)
  | cmpAbsy (o16 : Word)
  | cmpAbsx (o16 : Word)
  | cpxImm (o8 : Byte)
  | cpxZp (o8 : Byte)
  | cpxAbs (o16 : Word)
  | cpyImm (o8 : Byte)
  | cpyZp (o8 : Byte)
  | cpyAbs (o16 : Word)
  | bitZp (o8 : Byte)
  | bitAbs (o16 : Word)
  | incZp (o8 : Byte)
  | incAbs (o16 : Word)
  | incZpx (o8 : Byte)
  | incAbsx (o16 : Word)
  | decZp (o8 : Byte)
  | decAbs (o16 : Word)
  | decZpx (o8 : Byte)
  | decAbsx (o16 : Word)
  | inx
  | iny
  | dex
  | dey
  | aslZp (o8 : Byte)
  | aslAcc
  | aslAbs (o16 : Word)
  | aslZpx (o8 : Byte)
  | aslAbsx (o16 : Word)
  | lsrZp (o8 : Byte)
  | lsrAcc
  | lsrAbs (o16 : Word)
  | lsrZpx (o8 : Byte)
  | lsrAbsx (o16 : Word)
  | rolZp (o8 : Byte)
  | rolAcc
  | rolAbs (o16 : Word)
  | rolZpx (o8 : Byte)
  | rolAbsx (o16 : Word)
  | rorZp (o8 : Byte)
  | rorAcc
  | rorAbs (o16 : Word)
  | rorZpx (o8 : Byte)
  | rorAbsx (o16 : Word)
  | jmpAbs (o16 : Word)
  | jmpInd (o16 : Word)
  | jsr (o16 : Word)
  | rts
  | bcc (o8 : Byte)
  | bcs (o8 : Byte)
  | beq (o8 : Byte)
  | bne (o8 : Byte)
  | bmi (o8 : Byte)
  | bpl (o8 : Byte)
  | bvc (o8 : Byte)
  | bvs (o8 : Byte)
  | clc
  | sec
  | cli
  | sei
  | cld
  | sed
  | clv
  | nop
  | brk
  | rti
  deriving DecidableEq, Repr

end Sys2Proof
end

