-- ==== Sys2Proof/Decode.lean ====
section
/-! DEFINITION. Decoding, total on any bytes and rejecting by name, and the encoder, both written from the
tables of 30_encoding.md: the listing R204 (`Instr.entry`) and the 16 x 16 map R203 (`opcodeMap`). -/

namespace Sys2Proof

/-- A little-endian word from its low and high byte (R110). -/
def wordOf (lo hi : Byte) : Word := hi ++ lo

/-- The low byte of a word. -/
def lowByte (w : Word) : Byte := w.setWidth 8

/-- The high byte of a word. -/
def highByte (w : Word) : Byte := (w >>> 8).setWidth 8

/-- The opcode listing R204: opcode, mnemonic, mode with operand, bytes, base cycles, +1 on page cross. -/
def Instr.entry : Instr → Entry
  -- R300
  | .ldaIndx o8 => ⟨0xA1#8, .lda, (.indx o8), 2, 6, false⟩
  | .ldaZp o8 => ⟨0xA5#8, .lda, (.zp o8), 2, 3, false⟩
  | .ldaImm o8 => ⟨0xA9#8, .lda, (.imm o8), 2, 2, false⟩
  | .ldaAbs o16 => ⟨0xAD#8, .lda, (.abs o16), 3, 4, false⟩
  | .ldaIndy o8 => ⟨0xB1#8, .lda, (.indy o8), 2, 5, true⟩
  | .ldaZpx o8 => ⟨0xB5#8, .lda, (.zpx o8), 2, 4, false⟩
  | .ldaAbsy o16 => ⟨0xB9#8, .lda, (.absy o16), 3, 4, true⟩
  | .ldaAbsx o16 => ⟨0xBD#8, .lda, (.absx o16), 3, 4, true⟩
  -- R301
  | .ldxImm o8 => ⟨0xA2#8, .ldx, (.imm o8), 2, 2, false⟩
  | .ldxZp o8 => ⟨0xA6#8, .ldx, (.zp o8), 2, 3, false⟩
  | .ldxAbs o16 => ⟨0xAE#8, .ldx, (.abs o16), 3, 4, false⟩
  | .ldxZpy o8 => ⟨0xB6#8, .ldx, (.zpy o8), 2, 4, false⟩
  | .ldxAbsy o16 => ⟨0xBE#8, .ldx, (.absy o16), 3, 4, true⟩
  -- R302
  | .ldyImm o8 => ⟨0xA0#8, .ldy, (.imm o8), 2, 2, false⟩
  | .ldyZp o8 => ⟨0xA4#8, .ldy, (.zp o8), 2, 3, false⟩
  | .ldyAbs o16 => ⟨0xAC#8, .ldy, (.abs o16), 3, 4, false⟩
  | .ldyZpx o8 => ⟨0xB4#8, .ldy, (.zpx o8), 2, 4, false⟩
  | .ldyAbsx o16 => ⟨0xBC#8, .ldy, (.absx o16), 3, 4, true⟩
  -- R303
  | .staIndx o8 => ⟨0x81#8, .sta, (.indx o8), 2, 6, false⟩
  | .staZp o8 => ⟨0x85#8, .sta, (.zp o8), 2, 3, false⟩
  | .staAbs o16 => ⟨0x8D#8, .sta, (.abs o16), 3, 4, false⟩
  | .staIndy o8 => ⟨0x91#8, .sta, (.indy o8), 2, 6, false⟩
  | .staZpx o8 => ⟨0x95#8, .sta, (.zpx o8), 2, 4, false⟩
  | .staAbsy o16 => ⟨0x99#8, .sta, (.absy o16), 3, 5, false⟩
  | .staAbsx o16 => ⟨0x9D#8, .sta, (.absx o16), 3, 5, false⟩
  -- R304
  | .stxZp o8 => ⟨0x86#8, .stx, (.zp o8), 2, 3, false⟩
  | .stxAbs o16 => ⟨0x8E#8, .stx, (.abs o16), 3, 4, false⟩
  | .stxZpy o8 => ⟨0x96#8, .stx, (.zpy o8), 2, 4, false⟩
  -- R305
  | .styZp o8 => ⟨0x84#8, .sty, (.zp o8), 2, 3, false⟩
  | .styAbs o16 => ⟨0x8C#8, .sty, (.abs o16), 3, 4, false⟩
  | .styZpx o8 => ⟨0x94#8, .sty, (.zpx o8), 2, 4, false⟩
  -- R306
  | .tax => ⟨0xAA#8, .tax, .imp, 1, 2, false⟩
  -- R307
  | .tay => ⟨0xA8#8, .tay, .imp, 1, 2, false⟩
  -- R308
  | .txa => ⟨0x8A#8, .txa, .imp, 1, 2, false⟩
  -- R309
  | .tya => ⟨0x98#8, .tya, .imp, 1, 2, false⟩
  -- R310
  | .tsx => ⟨0xBA#8, .tsx, .imp, 1, 2, false⟩
  -- R311
  | .txs => ⟨0x9A#8, .txs, .imp, 1, 2, false⟩
  -- R330
  | .pha => ⟨0x48#8, .pha, .imp, 1, 3, false⟩
  -- R331
  | .php => ⟨0x08#8, .php, .imp, 1, 3, false⟩
  -- R332
  | .pla => ⟨0x68#8, .pla, .imp, 1, 4, false⟩
  -- R333
  | .plp => ⟨0x28#8, .plp, .imp, 1, 4, false⟩
  -- R340
  | .adcIndx o8 => ⟨0x61#8, .adc, (.indx o8), 2, 6, false⟩
  | .adcZp o8 => ⟨0x65#8, .adc, (.zp o8), 2, 3, false⟩
  | .adcImm o8 => ⟨0x69#8, .adc, (.imm o8), 2, 2, false⟩
  | .adcAbs o16 => ⟨0x6D#8, .adc, (.abs o16), 3, 4, false⟩
  | .adcIndy o8 => ⟨0x71#8, .adc, (.indy o8), 2, 5, true⟩
  | .adcZpx o8 => ⟨0x75#8, .adc, (.zpx o8), 2, 4, false⟩
  | .adcAbsy o16 => ⟨0x79#8, .adc, (.absy o16), 3, 4, true⟩
  | .adcAbsx o16 => ⟨0x7D#8, .adc, (.absx o16), 3, 4, true⟩
  -- R341
  | .sbcIndx o8 => ⟨0xE1#8, .sbc, (.indx o8), 2, 6, false⟩
  | .sbcZp o8 => ⟨0xE5#8, .sbc, (.zp o8), 2, 3, false⟩
  | .sbcImm o8 => ⟨0xE9#8, .sbc, (.imm o8), 2, 2, false⟩
  | .sbcAbs o16 => ⟨0xED#8, .sbc, (.abs o16), 3, 4, false⟩
  | .sbcIndy o8 => ⟨0xF1#8, .sbc, (.indy o8), 2, 5, true⟩
  | .sbcZpx o8 => ⟨0xF5#8, .sbc, (.zpx o8), 2, 4, false⟩
  | .sbcAbsy o16 => ⟨0xF9#8, .sbc, (.absy o16), 3, 4, true⟩
  | .sbcAbsx o16 => ⟨0xFD#8, .sbc, (.absx o16), 3, 4, true⟩
  -- R342
  | .andIndx o8 => ⟨0x21#8, .and, (.indx o8), 2, 6, false⟩
  | .andZp o8 => ⟨0x25#8, .and, (.zp o8), 2, 3, false⟩
  | .andImm o8 => ⟨0x29#8, .and, (.imm o8), 2, 2, false⟩
  | .andAbs o16 => ⟨0x2D#8, .and, (.abs o16), 3, 4, false⟩
  | .andIndy o8 => ⟨0x31#8, .and, (.indy o8), 2, 5, true⟩
  | .andZpx o8 => ⟨0x35#8, .and, (.zpx o8), 2, 4, false⟩
  | .andAbsy o16 => ⟨0x39#8, .and, (.absy o16), 3, 4, true⟩
  | .andAbsx o16 => ⟨0x3D#8, .and, (.absx o16), 3, 4, true⟩
  -- R343
  | .oraIndx o8 => ⟨0x01#8, .ora, (.indx o8), 2, 6, false⟩
  | .oraZp o8 => ⟨0x05#8, .ora, (.zp o8), 2, 3, false⟩
  | .oraImm o8 => ⟨0x09#8, .ora, (.imm o8), 2, 2, false⟩
  | .oraAbs o16 => ⟨0x0D#8, .ora, (.abs o16), 3, 4, false⟩
  | .oraIndy o8 => ⟨0x11#8, .ora, (.indy o8), 2, 5, true⟩
  | .oraZpx o8 => ⟨0x15#8, .ora, (.zpx o8), 2, 4, false⟩
  | .oraAbsy o16 => ⟨0x19#8, .ora, (.absy o16), 3, 4, true⟩
  | .oraAbsx o16 => ⟨0x1D#8, .ora, (.absx o16), 3, 4, true⟩
  -- R344
  | .eorIndx o8 => ⟨0x41#8, .eor, (.indx o8), 2, 6, false⟩
  | .eorZp o8 => ⟨0x45#8, .eor, (.zp o8), 2, 3, false⟩
  | .eorImm o8 => ⟨0x49#8, .eor, (.imm o8), 2, 2, false⟩
  | .eorAbs o16 => ⟨0x4D#8, .eor, (.abs o16), 3, 4, false⟩
  | .eorIndy o8 => ⟨0x51#8, .eor, (.indy o8), 2, 5, true⟩
  | .eorZpx o8 => ⟨0x55#8, .eor, (.zpx o8), 2, 4, false⟩
  | .eorAbsy o16 => ⟨0x59#8, .eor, (.absy o16), 3, 4, true⟩
  | .eorAbsx o16 => ⟨0x5D#8, .eor, (.absx o16), 3, 4, true⟩
  -- R345
  | .cmpIndx o8 => ⟨0xC1#8, .cmp, (.indx o8), 2, 6, false⟩
  | .cmpZp o8 => ⟨0xC5#8, .cmp, (.zp o8), 2, 3, false⟩
  | .cmpImm o8 => ⟨0xC9#8, .cmp, (.imm o8), 2, 2, false⟩
  | .cmpAbs o16 => ⟨0xCD#8, .cmp, (.abs o16), 3, 4, false⟩
  | .cmpIndy o8 => ⟨0xD1#8, .cmp, (.indy o8), 2, 5, true⟩
  | .cmpZpx o8 => ⟨0xD5#8, .cmp, (.zpx o8), 2, 4, false⟩
  | .cmpAbsy o16 => ⟨0xD9#8, .cmp, (.absy o16), 3, 4, true⟩
  | .cmpAbsx o16 => ⟨0xDD#8, .cmp, (.absx o16), 3, 4, true⟩
  -- R346
  | .cpxImm o8 => ⟨0xE0#8, .cpx, (.imm o8), 2, 2, false⟩
  | .cpxZp o8 => ⟨0xE4#8, .cpx, (.zp o8), 2, 3, false⟩
  | .cpxAbs o16 => ⟨0xEC#8, .cpx, (.abs o16), 3, 4, false⟩
  -- R347
  | .cpyImm o8 => ⟨0xC0#8, .cpy, (.imm o8), 2, 2, false⟩
  | .cpyZp o8 => ⟨0xC4#8, .cpy, (.zp o8), 2, 3, false⟩
  | .cpyAbs o16 => ⟨0xCC#8, .cpy, (.abs o16), 3, 4, false⟩
  -- R348
  | .bitZp o8 => ⟨0x24#8, .bit, (.zp o8), 2, 3, false⟩
  | .bitAbs o16 => ⟨0x2C#8, .bit, (.abs o16), 3, 4, false⟩
  -- R349
  | .incZp o8 => ⟨0xE6#8, .inc, (.zp o8), 2, 5, false⟩
  | .incAbs o16 => ⟨0xEE#8, .inc, (.abs o16), 3, 6, false⟩
  | .incZpx o8 => ⟨0xF6#8, .inc, (.zpx o8), 2, 6, false⟩
  | .incAbsx o16 => ⟨0xFE#8, .inc, (.absx o16), 3, 7, false⟩
  -- R350
  | .decZp o8 => ⟨0xC6#8, .dec, (.zp o8), 2, 5, false⟩
  | .decAbs o16 => ⟨0xCE#8, .dec, (.abs o16), 3, 6, false⟩
  | .decZpx o8 => ⟨0xD6#8, .dec, (.zpx o8), 2, 6, false⟩
  | .decAbsx o16 => ⟨0xDE#8, .dec, (.absx o16), 3, 7, false⟩
  -- R351
  | .inx => ⟨0xE8#8, .inx, .imp, 1, 2, false⟩
  -- R352
  | .iny => ⟨0xC8#8, .iny, .imp, 1, 2, false⟩
  -- R353
  | .dex => ⟨0xCA#8, .dex, .imp, 1, 2, false⟩
  -- R354
  | .dey => ⟨0x88#8, .dey, .imp, 1, 2, false⟩
  -- R380
  | .aslZp o8 => ⟨0x06#8, .asl, (.zp o8), 2, 5, false⟩
  | .aslAcc => ⟨0x0A#8, .asl, .acc, 1, 2, false⟩
  | .aslAbs o16 => ⟨0x0E#8, .asl, (.abs o16), 3, 6, false⟩
  | .aslZpx o8 => ⟨0x16#8, .asl, (.zpx o8), 2, 6, false⟩
  | .aslAbsx o16 => ⟨0x1E#8, .asl, (.absx o16), 3, 7, false⟩
  -- R381
  | .lsrZp o8 => ⟨0x46#8, .lsr, (.zp o8), 2, 5, false⟩
  | .lsrAcc => ⟨0x4A#8, .lsr, .acc, 1, 2, false⟩
  | .lsrAbs o16 => ⟨0x4E#8, .lsr, (.abs o16), 3, 6, false⟩
  | .lsrZpx o8 => ⟨0x56#8, .lsr, (.zpx o8), 2, 6, false⟩
  | .lsrAbsx o16 => ⟨0x5E#8, .lsr, (.absx o16), 3, 7, false⟩
  -- R382
  | .rolZp o8 => ⟨0x26#8, .rol, (.zp o8), 2, 5, false⟩
  | .rolAcc => ⟨0x2A#8, .rol, .acc, 1, 2, false⟩
  | .rolAbs o16 => ⟨0x2E#8, .rol, (.abs o16), 3, 6, false⟩
  | .rolZpx o8 => ⟨0x36#8, .rol, (.zpx o8), 2, 6, false⟩
  | .rolAbsx o16 => ⟨0x3E#8, .rol, (.absx o16), 3, 7, false⟩
  -- R383
  | .rorZp o8 => ⟨0x66#8, .ror, (.zp o8), 2, 5, false⟩
  | .rorAcc => ⟨0x6A#8, .ror, .acc, 1, 2, false⟩
  | .rorAbs o16 => ⟨0x6E#8, .ror, (.abs o16), 3, 6, false⟩
  | .rorZpx o8 => ⟨0x76#8, .ror, (.zpx o8), 2, 6, false⟩
  | .rorAbsx o16 => ⟨0x7E#8, .ror, (.absx o16), 3, 7, false⟩
  -- R400
  | .jmpAbs o16 => ⟨0x4C#8, .jmp, (.abs o16), 3, 3, false⟩
  | .jmpInd o16 => ⟨0x6C#8, .jmp, (.ind o16), 3, 5, false⟩
  -- R401
  | .jsr o16 => ⟨0x20#8, .jsr, (.abs o16), 3, 6, false⟩
  -- R402
  | .rts => ⟨0x60#8, .rts, .imp, 1, 6, false⟩
  -- R404
  | .bcc o8 => ⟨0x90#8, .bcc, (.rel o8), 2, 2, false⟩
  -- R405
  | .bcs o8 => ⟨0xB0#8, .bcs, (.rel o8), 2, 2, false⟩
  -- R406
  | .beq o8 => ⟨0xF0#8, .beq, (.rel o8), 2, 2, false⟩
  -- R407
  | .bne o8 => ⟨0xD0#8, .bne, (.rel o8), 2, 2, false⟩
  -- R408
  | .bmi o8 => ⟨0x30#8, .bmi, (.rel o8), 2, 2, false⟩
  -- R409
  | .bpl o8 => ⟨0x10#8, .bpl, (.rel o8), 2, 2, false⟩
  -- R410
  | .bvc o8 => ⟨0x50#8, .bvc, (.rel o8), 2, 2, false⟩
  -- R411
  | .bvs o8 => ⟨0x70#8, .bvs, (.rel o8), 2, 2, false⟩
  -- R430
  | .clc => ⟨0x18#8, .clc, .imp, 1, 2, false⟩
  -- R431
  | .sec => ⟨0x38#8, .sec, .imp, 1, 2, false⟩
  -- R432
  | .cli => ⟨0x58#8, .cli, .imp, 1, 2, false⟩
  -- R433
  | .sei => ⟨0x78#8, .sei, .imp, 1, 2, false⟩
  -- R434
  | .cld => ⟨0xD8#8, .cld, .imp, 1, 2, false⟩
  -- R435
  | .sed => ⟨0xF8#8, .sed, .imp, 1, 2, false⟩
  -- R436
  | .clv => ⟨0xB8#8, .clv, .imp, 1, 2, false⟩
  -- R437
  | .nop => ⟨0xEA#8, .nop, .imp, 1, 2, false⟩
  -- R440
  | .brk => ⟨0x00#8, .brk, .imp, 1, 7, false⟩
  -- R441
  | .rti => ⟨0x40#8, .rti, .imp, 1, 6, false⟩

/-- The opcode byte of an instruction. -/
def Instr.opcode (i : Instr) : Byte := i.entry.opcode

/-- The operand bytes in address order (R200: F1 none, F2 `o8`, F3 the low then the high byte of `o16`). -/
def operandBytes : Operand → List Byte
  | .imp | .acc => []
  | .imm o | .zp o | .zpx o | .zpy o | .indx o | .indy o | .rel o => [o]
  | .abs o | .absx o | .absy o | .ind o => [lowByte o, highByte o]

/-- The encoder: the bytes of an instruction in address order (R200). -/
def encode (i : Instr) : List Byte := i.opcode :: operandBytes i.entry.operand

/-- A cell of the opcode map: not wired, or the instruction of format F1, F2 or F3 (R200). -/
inductive Format where
  | unwired
  | f1 (i : Instr)
  | f2 (mk : Byte → Instr)
  | f3 (mk : Word → Instr)

/-- Row $0 of the opcode map R203. -/
def opcodeRow0 : List Format :=
  [.f1 .brk, .f2 .oraIndx, .unwired, .unwired,
   .unwired, .f2 .oraZp, .f2 .aslZp, .unwired,
   .f1 .php, .f2 .oraImm, .f1 .aslAcc, .unwired,
   .unwired, .f3 .oraAbs, .f3 .aslAbs, .unwired]

/-- Row $1 of the opcode map R203. -/
def opcodeRow1 : List Format :=
  [.f2 .bpl, .f2 .oraIndy, .unwired, .unwired,
   .unwired, .f2 .oraZpx, .f2 .aslZpx, .unwired,
   .f1 .clc, .f3 .oraAbsy, .unwired, .unwired,
   .unwired, .f3 .oraAbsx, .f3 .aslAbsx, .unwired]

/-- Row $2 of the opcode map R203. -/
def opcodeRow2 : List Format :=
  [.f3 .jsr, .f2 .andIndx, .unwired, .unwired,
   .f2 .bitZp, .f2 .andZp, .f2 .rolZp, .unwired,
   .f1 .plp, .f2 .andImm, .f1 .rolAcc, .unwired,
   .f3 .bitAbs, .f3 .andAbs, .f3 .rolAbs, .unwired]

/-- Row $3 of the opcode map R203. -/
def opcodeRow3 : List Format :=
  [.f2 .bmi, .f2 .andIndy, .unwired, .unwired,
   .unwired, .f2 .andZpx, .f2 .rolZpx, .unwired,
   .f1 .sec, .f3 .andAbsy, .unwired, .unwired,
   .unwired, .f3 .andAbsx, .f3 .rolAbsx, .unwired]

/-- Row $4 of the opcode map R203. -/
def opcodeRow4 : List Format :=
  [.f1 .rti, .f2 .eorIndx, .unwired, .unwired,
   .unwired, .f2 .eorZp, .f2 .lsrZp, .unwired,
   .f1 .pha, .f2 .eorImm, .f1 .lsrAcc, .unwired,
   .f3 .jmpAbs, .f3 .eorAbs, .f3 .lsrAbs, .unwired]

/-- Row $5 of the opcode map R203. -/
def opcodeRow5 : List Format :=
  [.f2 .bvc, .f2 .eorIndy, .unwired, .unwired,
   .unwired, .f2 .eorZpx, .f2 .lsrZpx, .unwired,
   .f1 .cli, .f3 .eorAbsy, .unwired, .unwired,
   .unwired, .f3 .eorAbsx, .f3 .lsrAbsx, .unwired]

/-- Row $6 of the opcode map R203. -/
def opcodeRow6 : List Format :=
  [.f1 .rts, .f2 .adcIndx, .unwired, .unwired,
   .unwired, .f2 .adcZp, .f2 .rorZp, .unwired,
   .f1 .pla, .f2 .adcImm, .f1 .rorAcc, .unwired,
   .f3 .jmpInd, .f3 .adcAbs, .f3 .rorAbs, .unwired]

/-- Row $7 of the opcode map R203. -/
def opcodeRow7 : List Format :=
  [.f2 .bvs, .f2 .adcIndy, .unwired, .unwired,
   .unwired, .f2 .adcZpx, .f2 .rorZpx, .unwired,
   .f1 .sei, .f3 .adcAbsy, .unwired, .unwired,
   .unwired, .f3 .adcAbsx, .f3 .rorAbsx, .unwired]

/-- Row $8 of the opcode map R203. -/
def opcodeRow8 : List Format :=
  [.unwired, .f2 .staIndx, .unwired, .unwired,
   .f2 .styZp, .f2 .staZp, .f2 .stxZp, .unwired,
   .f1 .dey, .unwired, .f1 .txa, .unwired,
   .f3 .styAbs, .f3 .staAbs, .f3 .stxAbs, .unwired]

/-- Row $9 of the opcode map R203. -/
def opcodeRow9 : List Format :=
  [.f2 .bcc, .f2 .staIndy, .unwired, .unwired,
   .f2 .styZpx, .f2 .staZpx, .f2 .stxZpy, .unwired,
   .f1 .tya, .f3 .staAbsy, .f1 .txs, .unwired,
   .unwired, .f3 .staAbsx, .unwired, .unwired]

/-- Row $A of the opcode map R203. -/
def opcodeRowA : List Format :=
  [.f2 .ldyImm, .f2 .ldaIndx, .f2 .ldxImm, .unwired,
   .f2 .ldyZp, .f2 .ldaZp, .f2 .ldxZp, .unwired,
   .f1 .tay, .f2 .ldaImm, .f1 .tax, .unwired,
   .f3 .ldyAbs, .f3 .ldaAbs, .f3 .ldxAbs, .unwired]

/-- Row $B of the opcode map R203. -/
def opcodeRowB : List Format :=
  [.f2 .bcs, .f2 .ldaIndy, .unwired, .unwired,
   .f2 .ldyZpx, .f2 .ldaZpx, .f2 .ldxZpy, .unwired,
   .f1 .clv, .f3 .ldaAbsy, .f1 .tsx, .unwired,
   .f3 .ldyAbsx, .f3 .ldaAbsx, .f3 .ldxAbsy, .unwired]

/-- Row $C of the opcode map R203. -/
def opcodeRowC : List Format :=
  [.f2 .cpyImm, .f2 .cmpIndx, .unwired, .unwired,
   .f2 .cpyZp, .f2 .cmpZp, .f2 .decZp, .unwired,
   .f1 .iny, .f2 .cmpImm, .f1 .dex, .unwired,
   .f3 .cpyAbs, .f3 .cmpAbs, .f3 .decAbs, .unwired]

/-- Row $D of the opcode map R203. -/
def opcodeRowD : List Format :=
  [.f2 .bne, .f2 .cmpIndy, .unwired, .unwired,
   .unwired, .f2 .cmpZpx, .f2 .decZpx, .unwired,
   .f1 .cld, .f3 .cmpAbsy, .unwired, .unwired,
   .unwired, .f3 .cmpAbsx, .f3 .decAbsx, .unwired]

/-- Row $E of the opcode map R203. -/
def opcodeRowE : List Format :=
  [.f2 .cpxImm, .f2 .sbcIndx, .unwired, .unwired,
   .f2 .cpxZp, .f2 .sbcZp, .f2 .incZp, .unwired,
   .f1 .inx, .f2 .sbcImm, .f1 .nop, .unwired,
   .f3 .cpxAbs, .f3 .sbcAbs, .f3 .incAbs, .unwired]

/-- Row $F of the opcode map R203. -/
def opcodeRowF : List Format :=
  [.f2 .beq, .f2 .sbcIndy, .unwired, .unwired,
   .unwired, .f2 .sbcZpx, .f2 .incZpx, .unwired,
   .f1 .sed, .f3 .sbcAbsy, .unwired, .unwired,
   .unwired, .f3 .sbcAbsx, .f3 .incAbsx, .unwired]

/-- The rows of R203, row = opcode bits 7..4. -/
def opcodeRows : List (List Format) :=
  [opcodeRow0, opcodeRow1, opcodeRow2, opcodeRow3, opcodeRow4, opcodeRow5, opcodeRow6, opcodeRow7] ++
  [opcodeRow8, opcodeRow9, opcodeRowA, opcodeRowB, opcodeRowC, opcodeRowD, opcodeRowE, opcodeRowF]

/-- The opcode map R203: row = opcode bits 7..4, column = opcode bits 3..0. -/
def opcodeMap (op : Byte) : Format :=
  (opcodeRows.getD (op.toNat / 16) []).getD (op.toNat % 16) .unwired

/-- Why a byte sequence is no instruction. -/
inductive DecodeError where
  /-- the opcode byte has no wired handler (R210, R212) -/
  | unwiredOpcode (op : Byte)
  /-- the bytes end before the instruction does -/
  | truncated
  deriving DecidableEq, Repr

/-- Decode the instruction at the front of a byte list (R200, R208), with the bytes after it. -/
def decode : List Byte → Except DecodeError (Instr × List Byte)
  | [] => .error .truncated
  | op :: rest =>
    match opcodeMap op, rest with
    | .unwired, _ => .error (.unwiredOpcode op)
    | .f1 i, _ => .ok (i, rest)
    | .f2 mk, o :: rest' => .ok (mk o, rest')
    | .f2 _, [] => .error .truncated
    | .f3 mk, lo :: hi :: rest' => .ok (mk (wordOf lo hi), rest')
    | .f3 _, _ => .error .truncated

/-- The first `nbits` bits of `w`, everything above zero. -/
def tableBits (nbits w : Nat) : Nat := w % 2 ^ nbits

/-- The bytes of an instruction whose bits are `w`, numbered as spec/opcode_table.json numbers them (bits 7..0
the opcode byte, 15..8 the byte after it), as the memory holds them: three bytes, the longest instruction. -/
def tableBytes (nbits w : Nat) : List Byte :=
  [BitVec.ofNat 8 (tableBits nbits w), BitVec.ofNat 8 (tableBits nbits w / 256),
   BitVec.ofNat 8 (tableBits nbits w / 65536)]

/-- What this decoder reads from an instruction whose first `nbits` bits are `w` and whose other bits are 0. -/
def decodeTableWord (nbits w : Nat) : Option Instr :=
  match decode (tableBytes nbits w) with
  | .ok (i, _) => some i
  | .error _ => none

end Sys2Proof
end

