-- ==== Sys2Proof/Machine/Bits.lean ====
section
/-! DEFINITION. Bit fields of bit vectors: `v[hi:lo]` and `v[i]` of R9, and the write of a field. -/

namespace Sys2Proof.Machine

/-- `v[lo+len-1 : lo]`: the unsigned field of `len` bits from bit `lo` (R9). -/
def getField {w : Nat} (v : BitVec w) (lo len : Nat) : BitVec len := (v >>> lo).setWidth len

/-- `v` with the field of `len` bits from bit `lo` replaced by `f` (R10: `r[hi:lo] <- f`). -/
def setField {w len : Nat} (v : BitVec w) (lo : Nat) (f : BitVec len) : BitVec w :=
  (v &&& ~~~((BitVec.allOnes len).setWidth w <<< lo)) ||| (f.setWidth w <<< lo)

/-- `v[i]`. -/
def getBit {w : Nat} (v : BitVec w) (i : Nat) : Bool := v.getLsbD i

/-- A bit as a number. -/
def bitNat (b : Bool) : Nat := if b then 1 else 0

/-- Bit `i` of a byte as a number, 0 or 1. -/
def byteBit (v : Byte) (i : Nat) : Nat := v.toNat / 2 ^ i % 2

/-- A byte with bit `i` equal to `b` and every other bit 0. -/
def bitAt (b : Bool) (i : Nat) : Byte := (BitVec.ofNat 8 (bitNat b)) <<< i

end Sys2Proof.Machine
end

