-- ==== Sys2Proof/Machine/Memory.lean ====
section
/-! DEFINITION. Sparse memories: lists of (address, value) pairs in one canonical form (addresses strictly
rising, no entry equal to the value an unlisted address reads as), with the read and the write of one cell. -/

namespace Sys2Proof.Machine

/-- A memory of `w`-bit cells. -/
abbrev Cells (w : Nat) := List (Nat × BitVec w)

/-- A memory of bytes: a list of `Host.Cell`. -/
abbrev Memory := Cells 8

/-- What an unlisted address reads as. DESIGN CHOICE (log entry 1): 0. The spec makes the power-on contents of
every memory a draw; `powerOn` takes the draws as an argument and lists the cells that differ from this value. -/
def unlistedCell (w : Nat) : BitVec w := 0#w

/-- The value of the cell at `a`. -/
def cellRead {w : Nat} : Cells w → Nat → BitVec w
  | [], _ => unlistedCell w
  | (k, v) :: m, a => if k = a then v else cellRead m a

/-- The memory without an entry at `a`. -/
def cellErase {w : Nat} : Cells w → Nat → Cells w
  | [], _ => []
  | (k, v) :: m, a => if k = a then cellErase m a else (k, v) :: cellErase m a

/-- The memory with the entry `(a, v)` put before the first greater address. -/
def cellInsert {w : Nat} : Cells w → Nat → BitVec w → Cells w
  | [], a, v => [(a, v)]
  | (k, u) :: m, a, v => if a < k then (a, v) :: (k, u) :: m else (k, u) :: cellInsert m a v

/-- Write `v` at `a`, keeping the canonical form: the value an unlisted address reads as is not listed. -/
def cellWrite {w : Nat} (m : Cells w) (a : Nat) (v : BitVec w) : Cells w :=
  if v = unlistedCell w then cellErase m a else cellInsert (cellErase m a) a v

/-- Addresses strictly rising from `lo` on, no entry equal to the value an unlisted address reads as. -/
def cellsWfFrom {w : Nat} : Nat → Cells w → Bool
  | _, [] => true
  | lo, (k, v) :: m => decide (lo ≤ k) && decide (v ≠ unlistedCell w) && cellsWfFrom (k + 1) m

/-- The canonical form of a memory of `w`-bit cells. -/
def cellsWf {w : Nat} (m : Cells w) : Bool := cellsWfFrom 0 m

/-- The canonical form of a memory of bytes. -/
def Memory.wf (m : Memory) : Bool := cellsWf m

end Sys2Proof.Machine
end

