-- ==== Sys2Proof/Machine/State.lean ====
section
/-! DEFINITION. The state of the CORE (10_state.md), as plain data: the CPU register file, the memories, the
mapper, the PPU, the APU, the joypad, the cycle count and the fault record, with the configuration the step
reads (the cartridge and the parameters, R60), which no step changes. -/

namespace Sys2Proof.Machine

/-- The status word `P` (R36): its seven stored bits. Bit 5, `P.U`, is the constant 1 (R42): it is not stored,
and `statusByte` (Flags.lean) puts it in every copy of `P`. -/
structure Status where
  /-- bit 7, Negative -/
  n : Bool
  /-- bit 6, Overflow -/
  v : Bool
  /-- bit 4, Break (R41) -/
  b : Bool
  /-- bit 3, Decimal (R40) -/
  d : Bool
  /-- bit 2, IRQ-disable (R39) -/
  i : Bool
  /-- bit 1, Zero -/
  z : Bool
  /-- bit 0, Carry -/
  c : Bool
  deriving DecidableEq, Repr

/-- The CPU register file (R30): `A`, `X`, `Y`, `S`, `P`, `PC`, `LastPC`. -/
structure Cpu where
  a : Byte
  x : Byte
  y : Byte
  s : Byte
  p : Status
  pc : Word
  lastPC : Word
  deriving DecidableEq, Repr

/-- The cartridge (R47), read-only after load: the page counts, the mapper id `CB2[7:4] : CB1[7:4]`, the header
bits `CB1[0]` to `CB1[3]`, and the PRG and CHR bytes (an image byte that is not listed is $00). -/
structure Cartridge where
  /-- PRG pages of 16 KB -/
  nPrg : Nat
  /-- CHR pages of 8 KB -/
  nChr : Nat
  mapperId : Byte
  /-- `CB1[0]`: 1 is vertical mirroring (R612) -/
  mirroring : Bool
  /-- `CB1[1]`: no rule reads it -/
  sram : Bool
  /-- `CB1[2]`: no rule reads it -/
  trainer : Bool
  /-- `CB1[3]`: ignored (R612, D22) -/
  fourScreen : Bool
  prg : Memory
  chr : Memory
  deriving DecidableEq, Repr

/-- The registers of the MMC1 (R48, R175 to R179). -/
structure Mmc1 where
  shift : BitVec 5
  /-- number of bits shifted in, 0..4 -/
  count : Nat
  control : BitVec 5
  chr0 : BitVec 5
  chr1 : BitVec 5
  prg : BitVec 5
  deriving DecidableEq, Repr

/-- The installed mapper with its bank selectors (R48, R161). `absent` is the CORE before an installation, and
after one that was a LoadError (R506): no step runs then. -/
inductive Mapper where
  | absent
  /-- id 0 -/
  | nrom
  /-- id 1 -/
  | mmc1 (r : Mmc1)
  /-- id 2: `unrom.bank` -/
  | unrom (bank : BitVec 3)
  /-- id 3: `cnrom.bank` -/
  | cnrom (bank : BitVec 2)
  deriving DecidableEq, Repr

/-- The PPU (R49 to R52). -/
structure Ppu where
  ctrl : Byte
  mask : Byte
  vblank : Bool
  sprite0hit : Bool
  overflow : Bool
  oamaddr : Byte
  /-- the current VRAM address, 15 bits (R632) -/
  v : BitVec 15
  /-- the temporary VRAM address, 15 bits (R632) -/
  t : BitVec 15
  /-- fine X scroll -/
  x : BitVec 3
  /-- the write toggle $2005 and $2006 share -/
  w : Bool
  /-- the $2007 read latch -/
  buffer : Byte
  /-- nametable RAM, addresses 0..2047 -/
  nt : Memory
  /-- palette RAM, addresses 0..31 -/
  pal : Memory
  /-- sprite RAM, addresses 0..255 -/
  oam : Memory
  /-- 0..261 -/
  scanline : Nat
  /-- 0..340 -/
  dot : Nat
  nmiPending : Bool
  /-- a sprite-0 hit was latched this frame -/
  s0latched : Bool
  /-- a sprite-0 hit occurred on the line being rendered -/
  s0line : Bool
  /-- the sprites of the line, OAM indices in OAM order, at most 8 (R650) -/
  lineSprites : List Nat
  /-- the framebuffer: pixel (y, x) at 256 y + x, a 6-bit colour index (R52) -/
  fb : Cells 6
  deriving DecidableEq, Repr

/-- The envelope fields `envStart`, `envDiv`, `envDecay` of a channel (R53, R55). -/
structure Envelope where
  start : Bool
  div : BitVec 4
  decay : BitVec 4
  deriving DecidableEq, Repr

/-- A pulse channel (R53). -/
structure Pulse where
  enabled : Bool
  duty : BitVec 2
  halt : Bool
  constVol : Bool
  vol : BitVec 4
  sweepEn : Bool
  sweepPeriod : BitVec 3
  sweepNeg : Bool
  sweepShift : BitVec 3
  sweepReload : Bool
  sweepDiv : BitVec 3
  period : BitVec 11
  timer : BitVec 11
  seq : BitVec 3
  length : BitVec 8
  env : Envelope
  deriving DecidableEq, Repr

/-- The triangle channel (R54). -/
structure Triangle where
  enabled : Bool
  control : Bool
  linReload : BitVec 7
  linCounter : BitVec 7
  linReloadFlag : Bool
  period : BitVec 11
  timer : BitVec 11
  seq : BitVec 5
  length : BitVec 8
  deriving DecidableEq, Repr

/-- The noise channel (R55). -/
structure Noise where
  enabled : Bool
  halt : Bool
  constVol : Bool
  vol : BitVec 4
  mode : Bool
  periodIndex : BitVec 4
  timer : BitVec 12
  lfsr : BitVec 15
  length : BitVec 8
  env : Envelope
  deriving DecidableEq, Repr

/-- The APU (R53 to R57). -/
structure Apu where
  pulse1 : Pulse
  pulse2 : Pulse
  tri : Triangle
  noise : Noise
  /-- 1 is the 5-step sequence -/
  mode5 : Bool
  irqInhibit : Bool
  frameIrq : Bool
  /-- CPU cycles since the last $4017 write or reset -/
  frameCycles : Nat
  /-- ticks since reset -/
  cycles : Nat
  /-- CPU cycles since the last sample -/
  sampleCounter : Nat
  /-- the samples not yet handed to the host, oldest first -/
  samples : List Byte
  deriving DecidableEq, Repr

/-- The joypad (R58, R800): button bit numbers 0 A, 1 B, 2 Select, 3 Start, 4 Up, 5 Down, 6 Left, 7 Right. -/
structure Pad where
  buttons : BitVec 8
  /-- serial position, 0..8 -/
  pos : Nat
  strobe : Bool
  deriving DecidableEq, Repr

/-- The reason of a `LoadError` (R500). -/
inductive LoadReason where
  /-- a mapper id other than 0, 1, 2, 3 -/
  | unsupportedMapper (id : Byte)
  /-- no PRG page -/
  | noPrg
  deriving DecidableEq, Repr

/-- The faults (R500) with the information each carries. A fault is recorded in the state's `fault` field by the
loop step that raises it, which ends there; it is terminal (R505), so a step of a state that holds one answers
`Host.Outcome.fault` with it: the stuck state of R505. Where the console's chip goes on (an unwired opcode, a
stack pointer that wraps, a palette byte of $40 or more) the stop is safe. -/
inductive Fault where
  /-- Raised by the opcode fetch of a byte with no wired handler (R251). Safe: the chip executes some of them. -/
  | unimplementedOpcode (opcode : Byte) (pc : Word)
  /-- Raised by PHA, PHP, JSR, BRK and NMI entry before the first push when `S` is below the number of pushes and
  `STACK_POLICY` is `fault` (R124). `s` is `S` before the instruction, `pc` is `LastPC`. Safe. -/
  | stackOverflow (s : Byte) (pc : Word)
  /-- Raised by PLA, PLP, RTS and RTI before the first pull when `S` is above $FF less the number of pulls and
  `STACK_POLICY` is `fault` (R124). `s` is `S` before the instruction, `pc` is `LastPC`. Safe. -/
  | stackUnderflow (s : Byte) (pc : Word)
  /-- Raised by the PPU at the dot that looks up a palette byte of $40 or more (R666). Safe. -/
  | invalidColorIndex (index : Byte) (scanline dot : Nat)
  /-- Raised by the installation of a cartridge, before any loop step (R506). Safe. -/
  | loadError (reason : LoadReason)
  deriving DecidableEq, Repr

/-- The refusals. The opcode listing is modelled whole: no arm of `exec` and no meaning answers one. -/
inductive Refusal where
  /-- an instruction without a meaning, by its mnemonic (safe); no instruction is left so -/
  | notModelled (mnemonic : String)
  deriving DecidableEq, Repr

/-- The state of the CORE (10_state.md). -/
structure State where
  /-- configuration (R60), changed by no step -/
  params : Params
  /-- configuration (R47, R60), changed by no step -/
  cart : Cartridge
  cpu : Cpu
  /-- the flat byte array (R46): work RAM at $0000-$07FF, cartridge-region RAM at $4020-$7FFF -/
  ram : Memory
  /-- `CHRRAM[0..8191]` (R47), present when the cartridge has no CHR page -/
  chrRam : Memory
  mapper : Mapper
  ppu : Ppu
  apu : Apu
  pad : Pad
  /-- CPU cycles since reset (R59) -/
  cycles : Nat
  /-- the fault record (R59, R500) -/
  fault : Option Fault
  deriving DecidableEq, Repr

/-! ## Updates of one component -/

def State.withCpu (s : State) (c : Cpu) : State := { s with cpu := c }
def State.withRam (s : State) (m : Memory) : State := { s with ram := m }
def State.withChrRam (s : State) (m : Memory) : State := { s with chrRam := m }
def State.withMapper (s : State) (m : Mapper) : State := { s with mapper := m }
def State.withPpu (s : State) (p : Ppu) : State := { s with ppu := p }
def State.withApu (s : State) (a : Apu) : State := { s with apu := a }
def State.withPad (s : State) (p : Pad) : State := { s with pad := p }
def State.withCycles (s : State) (n : Nat) : State := { s with cycles := n }
def State.withFault (s : State) (f : Option Fault) : State := { s with fault := f }
def State.withCart (s : State) (c : Cartridge) : State := { s with cart := c }

/-! ## Reset -/

/-- The smallest cartridge the CORE accepts: NROM, one PRG page with no listed byte, no CHR page. DESIGN CHOICE
(log entry 3): the cartridge is a host input the spec gives no reset value for. -/
def Cartridge.blank : Cartridge :=
  { nPrg := 1, nChr := 0, mapperId := 0, mirroring := false, sram := false, trainer := false,
    fourScreen := false, prg := [], chr := [] }

/-- Every envelope field 0 (R53, R55). -/
def Envelope.reset : Envelope := { start := false, div := 0, decay := 0 }

/-- A pulse channel at reset: all 0 (R53). -/
def Pulse.reset : Pulse :=
  { enabled := false, duty := 0, halt := false, constVol := false, vol := 0, sweepEn := false, sweepPeriod := 0,
    sweepNeg := false, sweepShift := 0, sweepReload := false, sweepDiv := 0, period := 0, timer := 0, seq := 0,
    length := 0, env := Envelope.reset }

/-- The triangle channel at reset: all 0 (R54). -/
def Triangle.reset : Triangle :=
  { enabled := false, control := false, linReload := 0, linCounter := 0, linReloadFlag := false, period := 0,
    timer := 0, seq := 0, length := 0 }

/-- The noise channel at reset: `lfsr = 1`, all others 0 (R55). -/
def Noise.reset : Noise :=
  { enabled := false, halt := false, constVol := false, vol := 0, mode := false, periodIndex := 0, timer := 0,
    lfsr := 1, length := 0, env := Envelope.reset }

/-- The APU at reset (R56, R57, R753). -/
def Apu.reset : Apu :=
  { pulse1 := Pulse.reset, pulse2 := Pulse.reset, tri := Triangle.reset, noise := Noise.reset, mode5 := false,
    irqInhibit := false, frameIrq := false, frameCycles := 0, cycles := 0, sampleCounter := 0, samples := [] }

/-- The joypad at reset (R58). -/
def Pad.reset : Pad := { buttons := 0, pos := 0, strobe := false }

/-- The PPU at reset, before the dots of the reset sequence, with the draws for its memories (R49 to R52). -/
def Ppu.reset (nt pal oam : Memory) (fb : Cells 6) : Ppu :=
  { ctrl := 0, mask := 0, vblank := false, sprite0hit := false, overflow := false, oamaddr := 0, v := 0, t := 0,
    x := 0, w := false, buffer := 0, nt := nt, pal := pal, oam := oam, scanline := 0, dot := 0,
    nmiPending := false, s0latched := false, s0line := false, lineSprites := [], fb := fb }

/-- The CORE right after the reset sequence R900 with the blank cartridge, the default parameters and every draw 0
(DESIGN CHOICE, log entries 1 to 3). `PC` and `LastPC` are the word at $FFFC of that cartridge; 7 cycles have been
counted and mirrored by 21 dots (the PPU at (0, 21), having composed pixels of colour `PAL[0]` = 0) and 7 APU ticks
(at the even ones the pulse sequencers step and the noise timer runs). That this is what R900 gives is
`reset_eq_powerOn` (Laws/Host.lean). -/
def State.reset : State :=
  { params := Params.default
    cart := Cartridge.blank
    cpu :=
      { a := 0, x := 0, y := 0, s := 0
        p := { n := false, v := false, b := false, d := false, i := true, z := false, c := false }
        pc := 0, lastPC := 0 }
    ram := []
    chrRam := []
    mapper := .nrom
    ppu := { Ppu.reset [] [] [] [] with dot := 21 }
    apu :=
      { Apu.reset with
        pulse1 := { Pulse.reset with seq := 4 }
        pulse2 := { Pulse.reset with seq := 4 }
        noise := { Noise.reset with lfsr := 0x2000 }
        frameCycles := 7, cycles := 7, sampleCounter := 7 }
    pad := Pad.reset
    cycles := 7
    fault := none }

end Sys2Proof.Machine
end

