-- ==== Sys2Proof/Machine/Apu.lean ====
section
/-! DEFINITION. The APU (62_apu.md): register writes, the status port, the tables, the channel timers, the frame
sequencer, the channel amplitudes and the sample tick. -/

namespace Sys2Proof.Machine

/-! ## Tables (R725 to R727) -/

/-- `LENGTH_TABLE` (R725), in half-frame clocks. -/
def lengthTable : List Nat :=
  [10, 254, 20, 2, 40, 4, 80, 6, 160, 8, 60, 10, 14, 12, 26, 14] ++
  [12, 16, 24, 18, 48, 20, 96, 22, 192, 24, 72, 26, 16, 28, 32, 30]

/-- `LENGTH_TABLE[v[7:3]]`: the length a length-register write loads. -/
def lengthOf (v : Byte) : BitVec 8 := BitVec.ofNat 8 (lengthTable.getD (getField v 3 5).toNat 0)

/-- The row of `DUTY` (R726) in output order, `seq` = 0..7. -/
def dutyRow (duty : BitVec 2) : List Nat :=
  if duty = 0 then [0, 1, 0, 0, 0, 0, 0, 0]
  else if duty = 1 then [0, 1, 1, 0, 0, 0, 0, 0]
  else if duty = 2 then [0, 1, 1, 1, 1, 0, 0, 0]
  else [1, 0, 0, 1, 1, 1, 1, 1]

/-- `DUTY[duty][seq]` (R726). -/
def dutyOut (duty : BitVec 2) (seq : BitVec 3) : Nat := (dutyRow duty).getD seq.toNat 0

/-- `TRI_SEQ[seq]` (R727). -/
def triangleOut (seq : BitVec 5) : Nat := if seq.toNat < 16 then 15 - seq.toNat else seq.toNat - 16

/-! ## Register writes (R710 to R719) -/

/-- $4000 / $4004 (R710). -/
def pulseWriteDuty (ch : Pulse) (v : Byte) : Pulse :=
  { ch with duty := getField v 6 2, halt := getBit v 5, constVol := getBit v 4, vol := getField v 0 4 }

/-- $4001 / $4005 (R711). -/
def pulseWriteSweep (ch : Pulse) (v : Byte) : Pulse :=
  { ch with sweepEn := getBit v 7, sweepPeriod := getField v 4 3, sweepNeg := getBit v 3, sweepShift := getField v 0 3,
            sweepReload := true }

/-- $4002 / $4006 (R712). -/
def pulseWriteLow (ch : Pulse) (v : Byte) : Pulse := { ch with period := setField ch.period 0 v }

/-- $4003 / $4007 (R713). -/
def pulseWriteHigh (ch : Pulse) (v : Byte) : Pulse :=
  { ch with period := setField ch.period 8 (getField v 0 3), length := if ch.enabled then lengthOf v else ch.length,
            seq := 0, env := { ch.env with start := true } }

/-- $4008 (R714). -/
def triWriteLinear (t : Triangle) (v : Byte) : Triangle :=
  { t with control := getBit v 7, linReload := getField v 0 7 }

/-- $400A (R715). -/
def triWriteLow (t : Triangle) (v : Byte) : Triangle := { t with period := setField t.period 0 v }

/-- $400B (R716). -/
def triWriteHigh (t : Triangle) (v : Byte) : Triangle :=
  { t with period := setField t.period 8 (getField v 0 3), length := if t.enabled then lengthOf v else t.length,
           linReloadFlag := true }

/-- $400C (R717). -/
def noiseWriteVolume (n : Noise) (v : Byte) : Noise :=
  { n with halt := getBit v 5, constVol := getBit v 4, vol := getField v 0 4 }

/-- $400E (R718). -/
def noiseWriteMode (n : Noise) (v : Byte) : Noise := { n with mode := getBit v 7, periodIndex := getField v 0 4 }

/-- $400F (R719). -/
def noiseWriteLength (n : Noise) (v : Byte) : Noise :=
  { n with length := if n.enabled then lengthOf v else n.length, env := { n.env with start := true } }

/-! ## Frame clocks (R736, R737) -/

/-- `Envelope(ch)` (R736) for a channel with the given `halt` and `vol`. -/
def clockEnvelope (halt : Bool) (vol : BitVec 4) (e : Envelope) : Envelope :=
  if e.start then { start := false, decay := 15, div := vol }
  else if e.div = 0 then
    { e with div := vol, decay := if e.decay ≠ 0 then e.decay - 1 else if halt then 15 else e.decay }
  else { e with div := e.div - 1 }

/-- `Linear()` (R736). -/
def clockLinear (t : Triangle) : Triangle :=
  { t with
    linCounter := if t.linReloadFlag then t.linReload else if t.linCounter ≠ 0 then t.linCounter - 1 else t.linCounter
    linReloadFlag := if t.control then t.linReloadFlag else false }

/-- `QuarterFrame()` (R736). -/
def quarterFrame (a : Apu) : Apu :=
  { a with
    pulse1 := { a.pulse1 with env := clockEnvelope a.pulse1.halt a.pulse1.vol a.pulse1.env }
    pulse2 := { a.pulse2 with env := clockEnvelope a.pulse2.halt a.pulse2.vol a.pulse2.env }
    noise := { a.noise with env := clockEnvelope a.noise.halt a.noise.vol a.noise.env }
    tri := clockLinear a.tri }

/-- A length counter at a half frame (R737). -/
def clockLength (halt : Bool) (n : BitVec 8) : BitVec 8 := if !halt && decide (n ≠ 0) then n - 1 else n

/-- The sweep unit's target (R737), an integer that may leave 0..$7FF. -/
def sweepTarget (ch : Pulse) (ones : Nat) : Int :=
  let change : Nat := ch.period.toNat / 2 ^ ch.sweepShift.toNat
  if ch.sweepNeg then (ch.period.toNat : Int) - change - ones else (ch.period.toNat : Int) + change

/-- `Sweep(ch, ones)` (R737). -/
def clockSweep (ones : Nat) (ch : Pulse) : Pulse :=
  let target := sweepTarget ch ones
  let period := if decide (ch.sweepDiv = 0) && ch.sweepEn && decide (ch.sweepShift ≠ 0) && decide (0 ≤ target) &&
      decide (target ≤ 0x7FF) then BitVec.ofNat 11 target.toNat else ch.period
  if decide (ch.sweepDiv = 0) || ch.sweepReload then
    { ch with period := period, sweepDiv := ch.sweepPeriod, sweepReload := false }
  else { ch with period := period, sweepDiv := ch.sweepDiv - 1 }

/-- `HalfFrame()` (R737). -/
def halfFrame (a : Apu) : Apu :=
  { a with
    pulse1 := clockSweep 1 { a.pulse1 with length := clockLength a.pulse1.halt a.pulse1.length }
    pulse2 := clockSweep 0 { a.pulse2 with length := clockLength a.pulse2.halt a.pulse2.length }
    noise := { a.noise with length := clockLength a.noise.halt a.noise.length }
    tri := { a.tri with length := clockLength a.tri.control a.tri.length } }

/-! ## $4015 and $4017 (R720 to R722) -/

/-- $4015 write, channel enable (R720): a channel whose bit is 0 loses its length at once. -/
def writeEnable (a : Apu) (v : Byte) : Apu :=
  { a with
    pulse1 := { a.pulse1 with enabled := getBit v 0, length := if getBit v 0 then a.pulse1.length else 0 }
    pulse2 := { a.pulse2 with enabled := getBit v 1, length := if getBit v 1 then a.pulse2.length else 0 }
    tri := { a.tri with enabled := getBit v 2, length := if getBit v 2 then a.tri.length else 0 }
    noise := { a.noise with enabled := getBit v 3, length := if getBit v 3 then a.noise.length else 0 } }

/-- The byte a $4015 read returns (R721). -/
def apuStatus (a : Apu) : Byte :=
  bitAt (decide (a.pulse1.length ≠ 0)) 0 ||| bitAt (decide (a.pulse2.length ≠ 0)) 1 |||
  bitAt (decide (a.tri.length ≠ 0)) 2 ||| bitAt (decide (a.noise.length ≠ 0)) 3 ||| bitAt a.frameIrq 6

/-- The side effect of a $4015 read (R721). -/
def clearFrameIrq (a : Apu) : Apu := { a with frameIrq := false }

/-- $4017 write, frame counter (R722). -/
def writeFrameCounter (a : Apu) (v : Byte) : Apu :=
  let a' := { a with mode5 := getBit v 7, irqInhibit := getBit v 6,
                     frameIrq := if getBit v 6 then false else a.frameIrq, frameCycles := 0 }
  if getBit v 7 then halfFrame (quarterFrame a') else a'

/-! ## Channel timers (R731 to R733) -/

/-- `PulseTimer(ch)` (R731). -/
def pulseTimer (ch : Pulse) : Pulse :=
  if ch.timer = 0 then { ch with timer := ch.period, seq := ch.seq + 1 } else { ch with timer := ch.timer - 1 }

/-- `TriangleTimer()` (R732). -/
def triangleTimer (t : Triangle) : Triangle :=
  if t.timer = 0 then
    { t with timer := t.period, seq := if t.length ≠ 0 ∧ t.linCounter ≠ 0 then t.seq + 1 else t.seq }
  else { t with timer := t.timer - 1 }

/-- The noise shift register's next value (R733). -/
def lfsrNext (mode : Bool) (l : BitVec 15) : BitVec 15 :=
  let fb := getBit l 0 ^^ (if mode then getBit l 6 else getBit l 1)
  (l >>> 1) ||| ((BitVec.ofNat 15 (bitNat fb)) <<< 14)

/-- `NoiseTimer()` (R733). -/
def noiseTimer (periods : List Nat) (n : Noise) : Noise :=
  if n.timer = 0 then
    { n with timer := BitVec.ofNat 12 (periods.getD n.periodIndex.toNat 0) - 1, lfsr := lfsrNext n.mode n.lfsr }
  else { n with timer := n.timer - 1 }

/-! ## Frame sequencer (R735) -/

/-- The step of the sequence that ends at the `k`-th multiple of `FRAME_STEP_CYCLES`: 1..4 or 1..5. -/
def frameStep (mode5 : Bool) (k : Nat) : Nat := (k - 1) % (if mode5 then 5 else 4) + 1

/-- What frame step `step` does (R735): the standard event table. -/
def frameEvents (step : Nat) (a : Apu) : Apu :=
  if step = 1 ∨ step = 3 then quarterFrame a
  else if step = 2 then halfFrame (quarterFrame a)
  else if a.mode5 then (if step = 5 then halfFrame (quarterFrame a) else a)
  else
    let a' := halfFrame (quarterFrame a)
    if a.irqInhibit then a' else { a' with frameIrq := true }

/-- `FrameSequencerTick()` (R735). -/
def frameSequencerTick (a : Apu) : Apu :=
  let a' := { a with frameCycles := a.frameCycles + 1 }
  if a'.frameCycles % frameStepCycles = 0 then
    frameEvents (frameStep a'.mode5 (a'.frameCycles / frameStepCycles)) a'
  else a'

/-! ## Output (R745 to R750) -/

/-- `SweepMute(ch)` (R745). `ones` is the channel's negate constant of R737. -/
def sweepMute (params : Params) (ones : Nat) (ch : Pulse) : Bool :=
  params.pulseSweepMute && (decide (ch.period.toNat < 8) || decide (sweepTarget ch ones > 0x7FF))

/-- `Pulse(ch)` (R745). -/
def pulseAmp (params : Params) (ones : Nat) (ch : Pulse) : BitVec 4 :=
  if !ch.enabled || decide (ch.length = 0) || decide (dutyOut ch.duty ch.seq = 0) || sweepMute params ones ch then 0
  else if ch.constVol then ch.vol else ch.env.decay

/-- `Tri` (R745): a linear counter of 0 holds the step and does not mute. -/
def triangleAmp (t : Triangle) : BitVec 4 :=
  if !t.enabled || decide (t.length = 0) then 0 else BitVec.ofNat 4 (triangleOut t.seq)

/-- `Noise` (R745). -/
def noiseAmp (n : Noise) : BitVec 4 :=
  if !n.enabled || decide (n.length = 0) || getBit n.lfsr 0 then 0 else if n.constVol then n.vol else n.env.decay

/-- The sample at this tick: the OPEN function `MIX` of the four amplitudes (R746). -/
def mixedSample (params : Params) (a : Apu) : Byte :=
  Config.mix (pulseAmp params 1 a.pulse1) (pulseAmp params 0 a.pulse2) (triangleAmp a.tri) (noiseAmp a.noise)

/-- The reference default R746 gives for `MIX`, scaled so that the loudest input gives 255. The sample tick does not use it:
`MIX` is OPEN, and `Config.mix` stands for whatever function the host supplies (log entry 4). -/
def referenceMix (p1 p2 t n : BitVec 4) : Byte :=
  BitVec.ofNat 8 (255 * (752 * (p1.toNat + p2.toNat) + 851 * t.toNat + 494 * n.toNat) / 42735)

/-- `SampleTick()` (R750). -/
def sampleTick (params : Params) (a : Apu) : Apu :=
  if a.sampleCounter + 1 = params.samplePeriod then
    { a with sampleCounter := 0, samples := a.samples ++ [mixedSample params a] }
  else { a with sampleCounter := a.sampleCounter + 1 }

/-! ## The tick (R701) -/

/-- The channel timers of one tick (R701): the triangle's always, the pulses' and the noise's on even ticks. -/
def channelTimers (params : Params) (a : Apu) : Apu :=
  if a.cycles % 2 = 0 then
    { a with tri := triangleTimer a.tri, pulse1 := pulseTimer a.pulse1, pulse2 := pulseTimer a.pulse2,
             noise := noiseTimer params.noisePeriods a.noise }
  else { a with tri := triangleTimer a.tri }

/-- `ApuTick()` (R701) on the APU. -/
def apuTickOf (params : Params) (a : Apu) : Apu :=
  let a' := sampleTick params (frameSequencerTick (channelTimers params a))
  { a' with cycles := a'.cycles + 1 }

/-- `ApuTick()` (R700, R701). -/
def apuTick (s : State) : State := s.withApu (apuTickOf s.params s.apu)

end Sys2Proof.Machine
end

