-- ==== Sys2Proof/Machine/Mappers.lean ====
section
/-! DEFINITION. The four mappers (21_mappers.md): the choice at load, CPU reads and writes of $8000-$FFFF and the
translation of the PPU's pattern space. -/

namespace Sys2Proof.Machine

/-- The MMC1 at reset (R48): shift 0, count 0, control $0C, chr0, chr1 and prg 0. -/
def mmc1Reset : Mmc1 := { shift := 0, count := 0, control := 0x0C, chr0 := 0, chr1 := 0, prg := 0 }

/-- The mapper a cartridge chooses, in its reset state (R48, R161), or the reason of the LoadError (R506): no PRG
page, or an id other than 0, 1, 2, 3. A cartridge with both defects reports the id (DESIGN CHOICE, log entry 7). -/
def chooseMapper (c : Cartridge) : Except LoadReason Mapper :=
  if c.mapperId.toNat ≥ 4 then .error (.unsupportedMapper c.mapperId)
  else if c.nPrg = 0 then .error .noPrg
  else if c.mapperId.toNat = 0 then .ok .nrom
  else if c.mapperId.toNat = 1 then .ok (.mmc1 mmc1Reset)
  else if c.mapperId.toNat = 2 then .ok (.unrom 0)
  else .ok (.cnrom 0)

/-! ## PRG (CPU $8000-$FFFF) -/

/-- The 16 KB bank at $8000 (`half` false) or $C000 (`half` true) for the MMC1 (R177). -/
def mmc1PrgBank (r : Mmc1) (nPrg : Nat) (half : Bool) : Nat :=
  let pm := (getField r.control 2 2).toNat
  let pb := (getField r.prg 0 4).toNat
  if pm = 0 ∨ pm = 1 then pb / 2 * 2 + bitNat half
  else if pm = 2 then (if half then pb else 0)
  else (if half then nPrg - 1 else pb)

/-- The 16 KB bank number at $8000 (`half` false) or $C000 (`half` true): R166 NROM, R171 UNROM, R177 MMC1, R186
CNROM. With no mapper installed (no step runs then) the first bank. -/
def prgBank (m : Mapper) (nPrg : Nat) (half : Bool) : Nat :=
  match m with
  | .absent => 0
  | .nrom => if half then nPrg - 1 else 0
  | .mmc1 r => mmc1PrgBank r nPrg half
  | .unrom bank => if half then nPrg - 1 else bank.toNat
  | .cnrom _ => if half then nPrg - 1 else 0

/-- The offset into PRG that CPU address `m`, $8000-$FFFF, reads: `(b mod nPRG) * $4000 + off` (R162). -/
def prgOffset (mp : Mapper) (nPrg : Nat) (m : Nat) : Nat :=
  prgBank mp nPrg (decide (0xC000 ≤ m)) % nPrg * 0x4000 + m % 0x4000

/-- `readByteCPU(m)` for `m >= $8000` (R162). -/
def prgRead (s : State) (m : Nat) : Byte := cellRead s.cart.prg (prgOffset s.mapper s.cart.nPrg m)

/-- The MMC1's write (R175): a value with bit 7 set empties the shift register and sets control bits 3..2; any other
shifts bit 0 in, and the fifth commits the result to the register its address selects. -/
def mmc1Write (r : Mmc1) (m : Nat) (v : Byte) : Mmc1 :=
  if getBit v 7 then { r with shift := 0, count := 0, control := r.control ||| 0x0C }
  else
    let shift := (r.shift >>> 1) ||| (getField v 0 1).setWidth 5 <<< 4
    if r.count + 1 = 5 then
      let r' := { r with shift := 0, count := 0 }
      if m ≤ 0x9FFF then { r' with control := shift }
      else if m ≤ 0xBFFF then { r' with chr0 := shift }
      else if m ≤ 0xDFFF then { r' with chr1 := shift }
      else { r' with prg := shift }
    else { r with shift := shift, count := r.count + 1 }

/-- `writeByteCPU(m, v)` for `m >= $8000`: NROM ignores it (R167), UNROM and CNROM select a bank (R170, R185), MMC1
shifts (R175). No PRG byte changes (R106). -/
def mapperWrite (mp : Mapper) (nPrg : Nat) (m : Nat) (v : Byte) : Mapper :=
  match mp with
  | .absent => .absent
  | .nrom => .nrom
  | .mmc1 r => .mmc1 (mmc1Write r m v)
  | .unrom _ => .unrom (if nPrg ≥ 8 then getField v 0 3 else getField v 0 3 &&& 3)
  | .cnrom _ => .cnrom (getField v 0 2)

/-! ## CHR (PPU $0000-$1FFF) -/

/-- The cartridge has 8 KB of CHR RAM (R47, R163). -/
def hasChrRam (s : State) : Bool := decide (s.cart.nChr = 0) && s.params.chrRamWhenNoChr

/-- `ChrSize` (R163): 0 when the cartridge has no CHR memory at all. -/
def chrSize (s : State) : Nat := if hasChrRam s then 8192 else 8192 * s.cart.nChr

/-- `getEffectivePPUAddress(p)` (R168, R172, R178, R187): the offset into CHR memory of pattern address `p`. -/
def chrOffset (mp : Mapper) (size p : Nat) : Nat :=
  match mp with
  | .absent | .nrom | .unrom _ => p % size
  | .mmc1 r =>
    let b := if getBit r.control 4 then (if p < 0x1000 then r.chr0.toNat else r.chr1.toNat)
      else r.chr0.toNat / 2 * 2 + p / 4096
    b % (size / 4096) * 0x1000 + p % 0x1000
  | .cnrom bank => bank.toNat % max 1 (size / 8192) * 0x2000 + p

/-- A read of pattern space (R163). Without any CHR memory the byte is the free value `Config.absentChr`. -/
def patternRead (s : State) (p : Nat) : Byte :=
  if chrSize s = 0 then Config.absentChr s.cycles s.ppu.scanline s.ppu.dot p
  else if hasChrRam s then cellRead s.chrRam (chrOffset s.mapper (chrSize s) p)
  else cellRead s.cart.chr (chrOffset s.mapper (chrSize s) p)

/-- A write of pattern space: CHR RAM is written, CHR ROM ignores it (R164). -/
def patternWrite (s : State) (p : Nat) (v : Byte) : State :=
  if hasChrRam s then s.withChrRam (cellWrite s.chrRam (chrOffset s.mapper (chrSize s) p) v) else s

end Sys2Proof.Machine
end

