-- ==== Sys2Proof/Machine/Ppu.lean ====
section
/-! DEFINITION. The PPU's address space and its ports $2000-$2007 (61_ppu.md sections 2 and 3). -/

namespace Sys2Proof.Machine

/-! ## The PPU address space (R610 to R613) -/

/-- The mirroring mode (R612): 0 one-screen lower, 1 one-screen upper, 2 vertical, 3 horizontal. -/
def mirrorMode (s : State) : Nat :=
  let header := if s.cart.mirroring then 2 else 3
  match s.mapper with
  | .mmc1 r => if s.params.mmc1MirroringApplied then (getField r.control 0 2).toNat else header
  | _ => header

/-- The physical 1 KB page of logical nametable `n` (R612). -/
def ntPage (mode n : Nat) : Nat :=
  if mode = 0 then 0 else if mode = 1 then 1 else if mode = 2 then n % 2 else n / 2

/-- `NtIndex(a)` for `a` in $2000-$3EFF (R612); $3000-$3EFF fold onto $2000-$2EFF. -/
def ntIndex (s : State) (a : Nat) : Nat :=
  let q := (a - 0x2000) % 0x1000
  ntPage (mirrorMode s) (q / 0x400) * 0x400 + q % 0x400

/-- `PalIndex(a)` (R613): $3F10, $3F14, $3F18, $3F1C are the storage of $3F00, $3F04, $3F08, $3F0C. -/
def palIndex (a : Nat) : Nat :=
  let i := a % 0x20
  if i = 0x10 ∨ i = 0x14 ∨ i = 0x18 ∨ i = 0x1C then i % 0x10 else i

/-- `PpuRead` (R611). -/
def ppuRead (s : State) (addr : Nat) : Byte :=
  let a := addr % 0x4000
  if a < 0x2000 then patternRead s a
  else if a < 0x3F00 then cellRead s.ppu.nt (ntIndex s a)
  else cellRead s.ppu.pal (palIndex a)

/-- `PpuWrite` (R611). -/
def ppuWrite (s : State) (addr : Nat) (v : Byte) : State :=
  let a := addr % 0x4000
  if a < 0x2000 then patternWrite s a v
  else if a < 0x3F00 then s.withPpu { s.ppu with nt := cellWrite s.ppu.nt (ntIndex s a) v }
  else s.withPpu { s.ppu with pal := cellWrite s.ppu.pal (palIndex a) v }

/-! ## The ports -/

/-- $2000 write, PPUCTRL (R620). -/
def writeCtrl (p : Ppu) (v : Byte) : Ppu := { p with ctrl := v, t := setField p.t 10 (getField v 0 2) }

/-- $2001 write, PPUMASK (R621). -/
def writeMask (p : Ppu) (v : Byte) : Ppu := { p with mask := v }

/-- The byte a $2002 read returns (R622): bits 4..0 are 0. -/
def statusBits (p : Ppu) : Byte := bitAt p.vblank 7 ||| bitAt p.sprite0hit 6 ||| bitAt p.overflow 5

/-- The side effect of a $2002 read (R622). -/
def clearOnStatusRead (p : Ppu) : Ppu := { p with vblank := false, w := false }

/-- $2003 write, OAMADDR (R623). -/
def writeOamAddr (p : Ppu) (v : Byte) : Ppu := { p with oamaddr := v }

/-- $2004 write, OAMDATA (R624). -/
def writeOamData (p : Ppu) (v : Byte) : Ppu :=
  { p with oam := cellWrite p.oam p.oamaddr.toNat v, oamaddr := p.oamaddr + 1 }

/-- $2004 read (R625). -/
def readOamData (p : Ppu) : Byte := cellRead p.oam p.oamaddr.toNat

/-- $2005 write, PPUSCROLL (R626). -/
def writeScroll (p : Ppu) (v : Byte) : Ppu :=
  if p.w then { p with t := setField (setField p.t 12 (getField v 0 3)) 5 (getField v 3 5), w := false }
  else { p with t := setField p.t 0 (getField v 3 5), x := getField v 0 3, w := true }

/-- $2006 write, PPUADDR (R627). -/
def writeAddr (p : Ppu) (v : Byte) : Ppu :=
  if p.w then { p with t := setField p.t 0 v, v := setField p.t 0 v, w := false }
  else { p with t := setField (setField p.t 8 (getField v 0 6)) 14 (0#1), w := true }

/-- The $2007 increment of `v`, modulo 2^15 (R628, R629, R631). -/
def bumpV (p : Ppu) : Ppu := { p with v := p.v + (if getBit p.ctrl 2 then 32 else 1) }

/-- $2007 read, PPUDATA (R628): below $3F00 the latch is returned and refilled, in palette space the byte itself. -/
def readData (s : State) : Byte × State :=
  let a := s.ppu.v.toNat % 0x4000
  if a < 0x3F00 then (s.ppu.buffer, s.withPpu (bumpV { s.ppu with buffer := ppuRead s a }))
  else (ppuRead s a, s.withPpu (bumpV s.ppu))

/-- $2007 write (R629). -/
def writeData (s : State) (v : Byte) : State :=
  let s' := ppuWrite s (s.ppu.v.toNat % 0x4000) v
  s'.withPpu (bumpV s'.ppu)

end Sys2Proof.Machine
end

