-- ==== Sys2Proof/Machine/Bus.lean ====
section
/-! DEFINITION. The CPU address space (20_memory.md): mirroring, decoding, the port dispatcher, the joypad port and
OAM DMA (63_io_joypad_dma.md), and the one read and the one write every CPU access goes through. -/

namespace Sys2Proof.Machine

/-! ## Decoding (R101 to R107) -/

/-- `Mirror(a)` (R102). -/
def mirror (a : Nat) : Nat :=
  if a ≤ 0x1FFF then a % 0x800 else if a ≤ 0x3FFF then 0x2000 + a % 8 else a

/-- What a CPU address reaches (R101, R103). -/
inductive Target where
  /-- work RAM, offset $0000-$07FF -/
  | ram (off : Nat)
  /-- a port of the I/O dispatcher, $2000-$2007 or $4000-$401F -/
  | port (p : Nat)
  /-- cartridge space below ROM, $4020-$7FFF (R105) -/
  | cartLow (m : Nat)
  /-- cartridge ROM through the mapper, $8000-$FFFF (R106) -/
  | rom (m : Nat)
  deriving DecidableEq, Repr

/-- The target of a decoded address (R101). -/
def targetOf (m : Nat) : Target :=
  if m ≤ 0x1FFF then .ram m else if m ≤ 0x401F then .port m else if m ≤ 0x7FFF then .cartLow m else .rom m

/-- The target of a CPU address: mirroring first, then decoding (R101). -/
def target (a : Word) : Target := targetOf (mirror a.toNat)

/-! ## The joypad port (R801, R802) -/

/-- $4016 write (R801). -/
def padWrite (p : Pad) (v : Byte) : Pad :=
  { p with strobe := getBit v 0, pos := if getBit v 0 then 0 else p.pos }

/-- The byte a $4016 read returns (R802): bits 7..1 are 0. -/
def padByte (p : Pad) : Byte := bitAt (decide (p.pos < 8) && getBit p.buttons p.pos) 0

/-- The side effect of a $4016 read (R802). -/
def padAdvance (p : Pad) : Pad := if p.strobe = false ∧ p.pos < 8 then { p with pos := p.pos + 1 } else p

/-! ## Reads -/

/-- `PortRead` (R104): the read column of the port map; a port without a read handler returns 0 and changes nothing
(R107, R630). -/
def portRead (s : State) (p : Nat) : Byte × State :=
  if p = 0x2002 then (statusBits s.ppu, s.withPpu (clearOnStatusRead s.ppu))
  else if p = 0x2004 then (readOamData s.ppu, s)
  else if p = 0x2007 then readData s
  else if p = 0x4015 then (apuStatus s.apu, s.withApu (clearFrameIrq s.apu))
  else if p = 0x4016 then (padByte s.pad, s.withPad (padAdvance s.pad))
  else (0, s)

/-- A read of $4020-$7FFF (R105, R165). -/
def cartLowRead (s : State) (m : Nat) : Byte :=
  match s.params.lowCartRegion with
  | .ram => cellRead s.ram m
  | .zero => 0

/-- `MemRead(a, 1)` (R101): the byte and the state after the target's read side effect (R109). -/
def memRead (a : Word) (s : State) : Byte × State :=
  match target a with
  | .ram off => (cellRead s.ram off, s)
  | .port p => portRead s p
  | .cartLow m => (cartLowRead s m, s)
  | .rom m => (prgRead s m, s)

/-- The decoded byte at `a` without the read's side effect (R855's `Peek`). -/
def peek (s : State) (a : Word) : Byte := (memRead a s).1

/-- `MemRead(a, 2)` (R110): the low byte first, `a + 1` modulo 2^16. -/
def memRead16 (a : Word) (s : State) : Word × State :=
  let r0 := memRead a s
  let r1 := memRead (a + 1) r0.2
  (wordOf r0.1 r1.1, r1.2)

/-! ## OAM DMA (R810) -/

/-- The copies of R810 from the `n`-th last byte of page `page` on: byte `i = 256 - n` goes to
`OAM[(oamaddr + i) mod 256]`. -/
def oamDmaCopy (page : Byte) : Nat → State → State
  | 0, s => s
  | n + 1, s =>
    let i := 255 - n
    let r := memRead (wordOf (BitVec.ofNat 8 i) page) s
    let p := r.2.ppu
    oamDmaCopy page n (r.2.withPpu { p with oam := cellWrite p.oam ((p.oamaddr.toNat + i) % 256) r.1 })

/-- $4014 write (R810): 256 copies, then the stall of `OAM_DMA_CYCLES`. The stall is counted here; R267 adds it to the
instruction's cycles, and the sum is the same (DEDUCED, log entry 9). -/
def oamDma (s : State) (page : Byte) : State :=
  let s' := oamDmaCopy page 256 s
  s'.withCycles (s'.cycles + s'.params.oamDmaCycles)

/-! ## Writes -/

/-- The pulse register `reg` = 0..3 (R710 to R713). -/
def pulseWrite (ch : Pulse) (reg : Nat) (v : Byte) : Pulse :=
  if reg = 0 then pulseWriteDuty ch v else if reg = 1 then pulseWriteSweep ch v
  else if reg = 2 then pulseWriteLow ch v else pulseWriteHigh ch v

/-- The APU's write handlers (R710 to R722); `none` for a port that is not the APU's. -/
def apuWrite (a : Apu) (p : Nat) (v : Byte) : Option Apu :=
  if 0x4000 ≤ p ∧ p ≤ 0x4003 then some { a with pulse1 := pulseWrite a.pulse1 (p - 0x4000) v }
  else if 0x4004 ≤ p ∧ p ≤ 0x4007 then some { a with pulse2 := pulseWrite a.pulse2 (p - 0x4004) v }
  else if p = 0x4008 then some { a with tri := triWriteLinear a.tri v }
  else if p = 0x400A then some { a with tri := triWriteLow a.tri v }
  else if p = 0x400B then some { a with tri := triWriteHigh a.tri v }
  else if p = 0x400C then some { a with noise := noiseWriteVolume a.noise v }
  else if p = 0x400E then some { a with noise := noiseWriteMode a.noise v }
  else if p = 0x400F then some { a with noise := noiseWriteLength a.noise v }
  else if p = 0x4015 then some (writeEnable a v)
  else if p = 0x4017 then some (writeFrameCounter a v)
  else none

/-- `PortWrite` (R104): the write column of the port map; a port without a write handler ignores it (R107), and $2002
ignores it (R622). -/
def portWrite (s : State) (p : Nat) (v : Byte) : State :=
  if p = 0x2000 then s.withPpu (writeCtrl s.ppu v)
  else if p = 0x2001 then s.withPpu (writeMask s.ppu v)
  else if p = 0x2003 then s.withPpu (writeOamAddr s.ppu v)
  else if p = 0x2004 then s.withPpu (writeOamData s.ppu v)
  else if p = 0x2005 then s.withPpu (writeScroll s.ppu v)
  else if p = 0x2006 then s.withPpu (writeAddr s.ppu v)
  else if p = 0x2007 then writeData s v
  else if p = 0x4014 then oamDma s v
  else if p = 0x4016 then s.withPad (padWrite s.pad v)
  else
    match apuWrite s.apu p v with
    | some a => s.withApu a
    | none => s

/-- A write of $4020-$7FFF (R105, R165). -/
def cartLowWrite (s : State) (m : Nat) (v : Byte) : State :=
  match s.params.lowCartRegion with
  | .ram => s.withRam (cellWrite s.ram m v)
  | .zero => s

/-- `MemWrite(a, 1, v)` (R101). -/
def memWrite (a : Word) (v : Byte) (s : State) : State :=
  match target a with
  | .ram off => s.withRam (cellWrite s.ram off v)
  | .port p => portWrite s p v
  | .cartLow m => cartLowWrite s m v
  | .rom m => s.withMapper (mapperWrite s.mapper s.cart.nPrg m v)

/-- Put byte `v` into the storage cell CPU address `a` reads (RAM, or the PRG byte the mapper shows there), bypassing
the CPU: the placement of a program by the host. A port and a region that holds no byte are left alone. -/
def poke (a : Word) (v : Byte) (s : State) : State :=
  match target a with
  | .ram off => s.withRam (cellWrite s.ram off v)
  | .port _ => s
  | .cartLow m => cartLowWrite s m v
  | .rom m => s.withCart { s.cart with prg := cellWrite s.cart.prg (prgOffset s.mapper s.cart.nPrg m) v }

/-- The byte at `a` has a storage cell `poke` reaches. -/
def holdsByte (s : State) (a : Word) : Bool :=
  match target a with
  | .ram _ => true
  | .port _ => false
  | .cartLow _ => decide (s.params.lowCartRegion = .ram)
  | .rom _ => true

end Sys2Proof.Machine
end

