-- ==== Sys2Proof/Machine/Flags.lean ====
section
/-! DEFINITION. The status byte and every flag computation of 43_arith_logic.md and 44_shift_rotate.md, as pure
functions of operands and flags. -/

namespace Sys2Proof.Machine

/-- `P` as a byte (R36) with bit 4 equal to `b`: bit 5 is the constant 1 (R42). -/
def statusByteWith (p : Status) (b : Bool) : Byte :=
  bitAt p.n 7 ||| bitAt p.v 6 ||| bitAt true 5 ||| bitAt b 4 ||| bitAt p.d 3 ||| bitAt p.i 2 ||| bitAt p.z 1 |||
  bitAt p.c 0

/-- `P` as a byte with its stored Break bit (R36, R41). -/
def statusByte (p : Status) : Byte := statusByteWith p p.b

/-- The status a pulled byte gives (R333, R441): bit 5 of the byte is discarded (R42). -/
def statusOfByte (v : Byte) : Status :=
  { n := getBit v 7, v := getBit v 6, b := getBit v 4, d := getBit v 3, i := getBit v 2, z := getBit v 1,
    c := getBit v 0 }

/-- `SetNZ(v)` (R11). -/
def setNZ (p : Status) (v : Byte) : Status := { p with n := getBit v 7, z := decide (v = 0) }

/-- The 9-bit sum of ADC, 0..511 (R340). -/
def adcSum (a m : Byte) (c : Bool) : Nat := a.toNat + m.toNat + bitNat c

/-- The result byte of ADC (R340). -/
def adcResult (a m : Byte) (c : Bool) : Byte := BitVec.ofNat 8 (adcSum a m c)

/-- The flags of ADC (R340). -/
def adcFlags (p : Status) (a m : Byte) : Status :=
  let r := adcResult a m p.c
  setNZ { p with c := decide (adcSum a m p.c > 255), v := decide (((~~~(a ^^^ m)) &&& (a ^^^ r) &&& 0x80) ≠ 0) } r

/-- The 16-bit unsigned difference of SBC (R341). -/
def sbcDiff (a m : Byte) (c : Bool) : Word := a.setWidth 16 - m.setWidth 16 - BitVec.ofNat 16 (bitNat (!c))

/-- The result byte of SBC (R341). -/
def sbcResult (a m : Byte) (c : Bool) : Byte := (sbcDiff a m c).setWidth 8

/-- The flags of SBC (R341). -/
def sbcFlags (p : Status) (a m : Byte) : Status :=
  let r := sbcResult a m p.c
  setNZ { p with c := decide ((sbcDiff a m p.c).toNat ≤ 255), v := decide (((a ^^^ m) &&& (a ^^^ r) &&& 0x80) ≠ 0) } r

/-- The flags of a compare of register `r` with `m` (R345 to R347). -/
def compareFlags (p : Status) (r m : Byte) : Status := setNZ { p with c := decide (m.toNat ≤ r.toNat) } (r - m)

/-- The flags of BIT (R348). -/
def bitFlags (p : Status) (a m : Byte) : Status :=
  { p with z := decide (a &&& m = 0), n := getBit m 7, v := getBit m 6 }

/-- The result of ASL (R380). -/
def aslResult (v : Byte) : Byte := v <<< 1

/-- The flags of ASL (R380). -/
def aslFlags (p : Status) (v : Byte) : Status := setNZ { p with c := getBit v 7 } (aslResult v)

/-- The result of LSR (R381). -/
def lsrResult (v : Byte) : Byte := v >>> 1

/-- The flags of LSR (R381). -/
def lsrFlags (p : Status) (v : Byte) : Status := setNZ { p with c := getBit v 0 } (lsrResult v)

/-- The result of ROL (R382). -/
def rolResult (v : Byte) (cin : Bool) : Byte := (v <<< 1) ||| bitAt cin 0

/-- The flags of ROL (R382). -/
def rolFlags (p : Status) (v : Byte) : Status := setNZ { p with c := getBit v 7 } (rolResult v p.c)

/-- The result of ROR (R383). -/
def rorResult (v : Byte) (cin : Bool) : Byte := (v >>> 1) ||| bitAt cin 7

/-- The flags of ROR (R383). -/
def rorFlags (p : Status) (v : Byte) : Status := setNZ { p with c := getBit v 0 } (rorResult v p.c)

end Sys2Proof.Machine
end

