-- ==== Sys2Proof/Machine/Ops.lean ====
section
/-! DEFINITION. The named operations over registers, the stack and the interrupt entry and return: what the meanings
share (20_memory.md section 3, 40_cpu_step_addressing.md R250 and R267, 60_exceptions.md). -/

namespace Sys2Proof.Machine

/-! ## Registers -/

def setA (s : State) (v : Byte) : State := s.withCpu { s.cpu with a := v }
def setX (s : State) (v : Byte) : State := s.withCpu { s.cpu with x := v }
def setY (s : State) (v : Byte) : State := s.withCpu { s.cpu with y := v }
def setS (s : State) (v : Byte) : State := s.withCpu { s.cpu with s := v }
def setP (s : State) (p : Status) : State := s.withCpu { s.cpu with p := p }
def setPC (s : State) (a : Word) : State := s.withCpu { s.cpu with pc := a }

/-- `SetNZ(v)` on the status register (R11). -/
def flagNZ (s : State) (v : Byte) : State := setP s (setNZ s.cpu.p v)

/-! ## The frame of an instruction (R250, R267) -/

/-- `LastPC <- PC; PC <- PC + length` (R250). -/
def advancePC (bytes : Nat) (s : State) : State :=
  s.withCpu { s.cpu with lastPC := s.cpu.pc, pc := s.cpu.pc + BitVec.ofNat 16 bytes }

/-- `cycles <- cycles + n` (R850). -/
def addCycles (n : Nat) (s : State) : State := s.withCycles (s.cycles + n)

/-- `raise Fault(kind, info)` (R500): the first fault is recorded, nothing else changes. -/
def raise (f : Fault) (s : State) : State := s.withFault (some (s.fault.getD f))

/-! ## The stack (R120 to R125) -/

/-- The CPU address of the stack byte `S` selects (R33). -/
def stackAddr (v : Byte) : Word := 0x0100 + v.setWidth 16

/-- `StackCheckPush(k)` (R124): the check fails when `S < k` under `STACK_POLICY = fault`. -/
def pushFails (s : State) (k : Nat) : Bool :=
  decide (s.params.stackPolicy = .fault) && decide (s.cpu.s.toNat < k)

/-- `StackCheckPull(k)` (R124): the check fails when `S > $FF - k` under `STACK_POLICY = fault`. -/
def pullFails (s : State) (k : Nat) : Bool :=
  decide (s.params.stackPolicy = .fault) && decide (s.cpu.s.toNat > 0xFF - k)

/-- The fault of a failed push check (R124, R500). -/
def overflowFault (s : State) : Fault := .stackOverflow s.cpu.s s.cpu.lastPC

/-- The fault of a failed pull check (R124, R500). -/
def underflowFault (s : State) : Fault := .stackUnderflow s.cpu.s s.cpu.lastPC

/-- `Push8(v)` after its check (R120): write, then decrement `S` modulo 256. -/
def push8 (v : Byte) (s : State) : State :=
  let s' := memWrite (stackAddr s.cpu.s) v s
  setS s' (s'.cpu.s - 1)

/-- `Push16(v)` after its check (R122): the high byte, then the low byte. -/
def push16 (v : Word) (s : State) : State := push8 (lowByte v) (push8 (highByte v) s)

/-- `Pull8()` after its check (R121, R125): increment `S` modulo 256, then read; the vacated byte is cleared under
`STACK_CLEAR_ON_POP`. -/
def pull8 (s : State) : Byte × State :=
  let s1 := setS s (s.cpu.s + 1)
  let r := memRead (stackAddr s1.cpu.s) s1
  (r.1, if s.params.stackClearOnPop then memWrite (stackAddr s1.cpu.s) 0 r.2 else r.2)

/-- `Pull16()` after its check (R123): the low byte, then the high byte. -/
def pull16 (s : State) : Word × State :=
  let lo := pull8 s
  let hi := pull8 lo.2
  (wordOf lo.1 hi.1, hi.2)

/-! ## Interrupt entry and return (R440, R441, R520) -/

/-- The NMI vector (R103, D6). -/
def nmiVector : Word := 0xFFFA
/-- The reset vector (R103, D6). -/
def resetVector : Word := 0xFFFC
/-- The IRQ/BRK vector (R103, D6). -/
def brkVector : Word := 0xFFFE

/-- Taking an interrupt, after its stack check: BRK (R440) and NMI entry (R520) differ only in the address they push,
the Break bit of the pushed status and the vector. `ret` is pushed, then `P` with bit 5 set and bit 4 equal to `b`;
`P.I` becomes 1, `PC` the word at the vector. `LastPC` does not change. -/
def takeInterrupt (ret : Word) (b : Bool) (vector : Word) (s : State) : State :=
  let s1 := push16 ret s
  let s2 := push8 (statusByteWith s1.cpu.p b) s1
  let s3 := setP s2 { s2.cpu.p with i := true }
  let r := memRead16 vector s3
  setPC r.2 r.1

/-- Returning from an interrupt, after the stack check (R441): pull `P` (bit 5 stays 1), then `PC`, with no +1. -/
def returnFromInterrupt (s : State) : State :=
  let v := pull8 s
  let s1 := setP v.2 (statusOfByte v.1)
  let r := pull16 s1
  setPC r.2 r.1

/-- `NmiEntry()` (R520) with its cycles: the stack check for three pushes, then the entry through $FFFA. -/
def nmiEntry (s : State) : State :=
  if pushFails s 3 then raise (overflowFault s) s
  else addCycles s.params.nmiEntryCycles (takeInterrupt s.cpu.pc s.params.nmiPushB nmiVector s)

end Sys2Proof.Machine
end

