-- ==== Sys2Proof/Machine/Operands.lean ====
section
/-! DEFINITION. The addressing modes (40_cpu_step_addressing.md section 2), the operand primitives R266, the cycle count
R267, and the shapes of instructions built on them: reads, stores, read-modify-writes, register instructions, branches. -/

namespace Sys2Proof.Machine

/-- What a resolver sets (R253 to R265): the effective address, the page-crossing signal, and the state after the
pointer reads. -/
structure Resolved where
  ea : Word
  crossed : Bool
  st : State

/-- The two addresses are on different pages (R260). -/
def pageCrossed (base ea : Word) : Bool := decide (highByte base ≠ highByte ea)

/-- A zero-page address (R201): `zext_16(o8)`. -/
def zeroPage (o : Byte) : Word := o.setWidth 16

/-- The address of a zero-page pointer's high byte (R262, R263, D23). -/
def pointerHigh (params : Params) (p : Byte) : Word :=
  if params.zpPointerWrap then zeroPage (p + 1) else zeroPage p + 1

/-- The word a zero-page pointer holds, with the state after its two reads (R262, R263). -/
def zpPointer (p : Byte) (s : State) : Word × State :=
  let lo := memRead (zeroPage p) s
  let hi := memRead (pointerHigh s.params p) lo.2
  (wordOf lo.1 hi.1, hi.2)

/-- The address of the high byte of `(nnnn)`'s word: on the same page as the low byte (R264). -/
def indirectHigh (o : Word) : Word := wordOf (lowByte (o + 1)) (highByte o)

/-- The resolver of each mode (R253 to R265). `PC` already holds the address after the instruction (R265). A mode without
an effective address gives 0, which nothing reads. -/
def resolve (m : Operand) (s : State) : Resolved :=
  match m with
  | .imp | .acc | .imm _ => { ea := 0, crossed := false, st := s }
  | .zp o => { ea := zeroPage o, crossed := false, st := s }
  | .zpx o => { ea := zeroPage (o + s.cpu.x), crossed := false, st := s }
  | .zpy o => { ea := zeroPage (o + s.cpu.y), crossed := false, st := s }
  | .abs o => { ea := o, crossed := false, st := s }
  | .absx o => { ea := o + s.cpu.x.setWidth 16, crossed := pageCrossed o (o + s.cpu.x.setWidth 16), st := s }
  | .absy o => { ea := o + s.cpu.y.setWidth 16, crossed := pageCrossed o (o + s.cpu.y.setWidth 16), st := s }
  | .indx o =>
    let p := zpPointer (o + s.cpu.x) s
    { ea := p.1, crossed := false, st := p.2 }
  | .indy o =>
    let p := zpPointer o s
    { ea := p.1 + s.cpu.y.setWidth 16, crossed := pageCrossed p.1 (p.1 + s.cpu.y.setWidth 16), st := p.2 }
  | .ind o =>
    let lo := memRead o s
    let hi := memRead (indirectHigh o) lo.2
    { ea := wordOf lo.1 hi.1, crossed := false, st := hi.2 }
  | .rel o => { ea := s.cpu.pc + o.signExtend 16, crossed := pageCrossed s.cpu.pc (s.cpu.pc + o.signExtend 16), st := s }

/-- `Operand()` (R266): the value, and the state after the read. -/
def operandValue (m : Operand) (r : Resolved) : Byte × State :=
  match m with
  | .imm o => (o, r.st)
  | .acc => (r.st.cpu.a, r.st)
  | _ => memRead r.ea r.st

/-- `WriteBack(v)` (R266). -/
def writeBack (m : Operand) (ea : Word) (v : Byte) (s : State) : State :=
  match m with
  | .acc => setA s v
  | _ => memWrite ea v s

/-- `CycleCount(e)` of R267 without the branch terms and without `stall`. -/
def cycleCount (e : Entry) (crossed : Bool) : Nat := e.cycles + bitNat (e.penalty && crossed)

/-! ## Shapes of instructions

Each takes the instruction, whose table entry gives the length, mode and base cycles, and what it does with its operand. -/

/-- The state at which an instruction's resolver runs (R250). -/
def startOf (i : Instr) (s : State) : State := advancePC i.entry.bytes s

/-- The resolved address of an instruction started at `s`. -/
def resolveOf (i : Instr) (s : State) : Resolved := resolve i.entry.operand (startOf i s)

/-- The operand of an instruction started at `s`, with the state after its reads. -/
def operandOf (i : Instr) (s : State) : Byte × State := operandValue i.entry.operand (resolveOf i s)

/-- An instruction that reads its operand once (R266): `f` takes the operand and the state after the reads. -/
def runRead (i : Instr) (f : Byte → State → State) (s : State) : State :=
  addCycles (cycleCount i.entry (resolveOf i s).crossed) (f (operandOf i s).1 (operandOf i s).2)

/-- A store (R266): one write of the register's value at `EA`, with no read of it. -/
def runStore (i : Instr) (reg : Cpu → Byte) (s : State) : State :=
  let r := resolveOf i s
  addCycles (cycleCount i.entry r.crossed) (memWrite r.ea (reg r.st.cpu) r.st)

/-- A read-modify-write (R266): one `Operand()`, one `WriteBack()`; `g` gives the result and `h` the flags, from the
operand and the flags before. -/
def runModify (i : Instr) (g : Byte → Bool → Byte) (h : Status → Byte → Status) (s : State) : State :=
  let v := operandOf i s
  let s1 := writeBack i.entry.operand (resolveOf i s).ea (g v.1 v.2.cpu.p.c) v.2
  addCycles (cycleCount i.entry (resolveOf i s).crossed) (setP s1 (h v.2.cpu.p v.1))

/-- An implied instruction on the registers (R253): `f` runs after the step has advanced `PC`. -/
def runImplied (i : Instr) (f : State → State) (s : State) : State :=
  addCycles (cycleCount i.entry false) (f (startOf i s))

/-- An instruction that pushes `k` bytes: the check of R124 comes first, and a failed one leaves only `PC`, `LastPC` and
the fault record changed (R503). `f` takes the resolved address. -/
def runPush (i : Instr) (k : Nat) (f : Resolved → State) (s : State) : State :=
  let r := resolveOf i s
  if pushFails r.st k then raise (overflowFault r.st) r.st else addCycles (cycleCount i.entry false) (f r)

/-- An instruction that pulls `k` bytes, with the check of R124 first (R503). -/
def runPull (i : Instr) (k : Nat) (f : State → State) (s : State) : State :=
  let s1 := startOf i s
  if pullFails s1 k then raise (underflowFault s1) s1 else addCycles (cycleCount i.entry false) (f s1)

/-- The cycles of a branch (R267): one more when taken, and one more across a page under `BRANCH_PAGE_PENALTY`. -/
def branchCycles (params : Params) (e : Entry) (taken crossed : Bool) : Nat :=
  e.cycles + bitNat taken + bitNat (taken && crossed && params.branchPagePenalty)

/-- `Branch(cond)` (R403). -/
def runBranch (i : Instr) (cond : Status → Bool) (s : State) : State :=
  let r := resolveOf i s
  let taken := cond r.st.cpu.p
  addCycles (branchCycles r.st.params i.entry taken r.crossed) (if taken then setPC r.st r.ea else r.st)

end Sys2Proof.Machine
end

