-- ==== Sys2Proof/Machine/LoadStore.lean ====
section
/-! DEFINITION. Loads, stores and register transfers (41_load_store_transfer.md): one meaning per opcode. -/

namespace Sys2Proof.Machine

/-- `A <- v; SetNZ(v)` (R300). -/
def loadA (v : Byte) (s : State) : State := flagNZ (setA s v) v

/-- `X <- v; SetNZ(v)` (R301). -/
def loadX (v : Byte) (s : State) : State := flagNZ (setX s v) v

/-- `Y <- v; SetNZ(v)` (R302). -/
def loadY (v : Byte) (s : State) : State := flagNZ (setY s v) v

/-! ### LDA, load accumulator (R300) -/

/-- LDA `LDA ($nn,X)`, $A1 (R300). -/
def execLdaIndx (o8 : Byte) (s : State) : Host.Outcome State Fault Refusal :=
  .next (runRead (.ldaIndx o8) loadA s)

/-- LDA `LDA $nn`, $A5 (R300). -/
def execLdaZp (o8 : Byte) (s : State) : Host.Outcome State Fault Refusal :=
  .next (runRead (.ldaZp o8) loadA s)

/-- LDA `LDA #$nn`, $A9 (R300). -/
def execLdaImm (o8 : Byte) (s : State) : Host.Outcome State Fault Refusal :=
  .next (runRead (.ldaImm o8) loadA s)

/-- LDA `LDA $nnnn`, $AD (R300). -/
def execLdaAbs (o16 : Word) (s : State) : Host.Outcome State Fault Refusal :=
  .next (runRead (.ldaAbs o16) loadA s)

/-- LDA `LDA ($nn),Y`, $B1 (R300). -/
def execLdaIndy (o8 : Byte) (s : State) : Host.Outcome State Fault Refusal :=
  .next (runRead (.ldaIndy o8) loadA s)

/-- LDA `LDA $nn,X`, $B5 (R300). -/
def execLdaZpx (o8 : Byte) (s : State) : Host.Outcome State Fault Refusal :=
  .next (runRead (.ldaZpx o8) loadA s)

/-- LDA `LDA $nnnn,Y`, $B9 (R300). -/
def execLdaAbsy (o16 : Word) (s : State) : Host.Outcome State Fault Refusal :=
  .next (runRead (.ldaAbsy o16) loadA s)

/-- LDA `LDA $nnnn,X`, $BD (R300). -/
def execLdaAbsx (o16 : Word) (s : State) : Host.Outcome State Fault Refusal :=
  .next (runRead (.ldaAbsx o16) loadA s)

/-! ### LDX, load X (R301) -/

/-- LDX `LDX #$nn`, $A2 (R301). -/
def execLdxImm (o8 : Byte) (s : State) : Host.Outcome State Fault Refusal :=
  .next (runRead (.ldxImm o8) loadX s)

/-- LDX `LDX $nn`, $A6 (R301). -/
def execLdxZp (o8 : Byte) (s : State) : Host.Outcome State Fault Refusal :=
  .next (runRead (.ldxZp o8) loadX s)

/-- LDX `LDX $nnnn`, $AE (R301). -/
def execLdxAbs (o16 : Word) (s : State) : Host.Outcome State Fault Refusal :=
  .next (runRead (.ldxAbs o16) loadX s)

/-- LDX `LDX $nn,Y`, $B6 (R301). -/
def execLdxZpy (o8 : Byte) (s : State) : Host.Outcome State Fault Refusal :=
  .next (runRead (.ldxZpy o8) loadX s)

/-- LDX `LDX $nnnn,Y`, $BE (R301). -/
def execLdxAbsy (o16 : Word) (s : State) : Host.Outcome State Fault Refusal :=
  .next (runRead (.ldxAbsy o16) loadX s)

/-! ### LDY, load Y (R302) -/

/-- LDY `LDY #$nn`, $A0 (R302). -/
def execLdyImm (o8 : Byte) (s : State) : Host.Outcome State Fault Refusal :=
  .next (runRead (.ldyImm o8) loadY s)

/-- LDY `LDY $nn`, $A4 (R302). -/
def execLdyZp (o8 : Byte) (s : State) : Host.Outcome State Fault Refusal :=
  .next (runRead (.ldyZp o8) loadY s)

/-- LDY `LDY $nnnn`, $AC (R302). -/
def execLdyAbs (o16 : Word) (s : State) : Host.Outcome State Fault Refusal :=
  .next (runRead (.ldyAbs o16) loadY s)

/-- LDY `LDY $nn,X`, $B4 (R302). -/
def execLdyZpx (o8 : Byte) (s : State) : Host.Outcome State Fault Refusal :=
  .next (runRead (.ldyZpx o8) loadY s)

/-- LDY `LDY $nnnn,X`, $BC (R302). -/
def execLdyAbsx (o16 : Word) (s : State) : Host.Outcome State Fault Refusal :=
  .next (runRead (.ldyAbsx o16) loadY s)

/-! ### STA, store accumulator (R303) -/

/-- STA `STA ($nn,X)`, $81 (R303). -/
def execStaIndx (o8 : Byte) (s : State) : Host.Outcome State Fault Refusal :=
  .next (runStore (.staIndx o8) Cpu.a s)

/-- STA `STA $nn`, $85 (R303). -/
def execStaZp (o8 : Byte) (s : State) : Host.Outcome State Fault Refusal :=
  .next (runStore (.staZp o8) Cpu.a s)

/-- STA `STA $nnnn`, $8D (R303). -/
def execStaAbs (o16 : Word) (s : State) : Host.Outcome State Fault Refusal :=
  .next (runStore (.staAbs o16) Cpu.a s)

/-- STA `STA ($nn),Y`, $91 (R303). -/
def execStaIndy (o8 : Byte) (s : State) : Host.Outcome State Fault Refusal :=
  .next (runStore (.staIndy o8) Cpu.a s)

/-- STA `STA $nn,X`, $95 (R303). -/
def execStaZpx (o8 : Byte) (s : State) : Host.Outcome State Fault Refusal :=
  .next (runStore (.staZpx o8) Cpu.a s)

/-- STA `STA $nnnn,Y`, $99 (R303). -/
def execStaAbsy (o16 : Word) (s : State) : Host.Outcome State Fault Refusal :=
  .next (runStore (.staAbsy o16) Cpu.a s)

/-- STA `STA $nnnn,X`, $9D (R303). -/
def execStaAbsx (o16 : Word) (s : State) : Host.Outcome State Fault Refusal :=
  .next (runStore (.staAbsx o16) Cpu.a s)

/-! ### STX, store X (R304) -/

/-- STX `STX $nn`, $86 (R304). -/
def execStxZp (o8 : Byte) (s : State) : Host.Outcome State Fault Refusal :=
  .next (runStore (.stxZp o8) Cpu.x s)

/-- STX `STX $nnnn`, $8E (R304). -/
def execStxAbs (o16 : Word) (s : State) : Host.Outcome State Fault Refusal :=
  .next (runStore (.stxAbs o16) Cpu.x s)

/-- STX `STX $nn,Y`, $96 (R304). -/
def execStxZpy (o8 : Byte) (s : State) : Host.Outcome State Fault Refusal :=
  .next (runStore (.stxZpy o8) Cpu.x s)

/-! ### STY, store Y (R305) -/

/-- STY `STY $nn`, $84 (R305). -/
def execStyZp (o8 : Byte) (s : State) : Host.Outcome State Fault Refusal :=
  .next (runStore (.styZp o8) Cpu.y s)

/-- STY `STY $nnnn`, $8C (R305). -/
def execStyAbs (o16 : Word) (s : State) : Host.Outcome State Fault Refusal :=
  .next (runStore (.styAbs o16) Cpu.y s)

/-- STY `STY $nn,X`, $94 (R305). -/
def execStyZpx (o8 : Byte) (s : State) : Host.Outcome State Fault Refusal :=
  .next (runStore (.styZpx o8) Cpu.y s)

/-! ### TAX, transfer A to X (R306) -/

/-- TAX `TAX`, $AA (R306). -/
def execTax (s : State) : Host.Outcome State Fault Refusal :=
  .next (runImplied .tax (fun s => loadX s.cpu.a s) s)

/-! ### TAY, transfer A to Y (R307) -/

/-- TAY `TAY`, $A8 (R307). -/
def execTay (s : State) : Host.Outcome State Fault Refusal :=
  .next (runImplied .tay (fun s => loadY s.cpu.a s) s)

/-! ### TXA, transfer X to A (R308) -/

/-- TXA `TXA`, $8A (R308). -/
def execTxa (s : State) : Host.Outcome State Fault Refusal :=
  .next (runImplied .txa (fun s => loadA s.cpu.x s) s)

/-! ### TYA, transfer Y to A (R309) -/

/-- TYA `TYA`, $98 (R309). -/
def execTya (s : State) : Host.Outcome State Fault Refusal :=
  .next (runImplied .tya (fun s => loadA s.cpu.y s) s)

/-! ### TSX, transfer S to X (R310) -/

/-- TSX `TSX`, $BA (R310). -/
def execTsx (s : State) : Host.Outcome State Fault Refusal :=
  .next (runImplied .tsx (fun s => loadX s.cpu.s s) s)

/-! ### TXS, transfer X to S (no flag) (R311) -/

/-- TXS `TXS`, $9A (R311). -/
def execTxs (s : State) : Host.Outcome State Fault Refusal :=
  .next (runImplied .txs (fun s => setS s s.cpu.x) s)

end Sys2Proof.Machine
end

