-- ==== Sys2Proof/Machine/ArithLogic.lean ====
section
/-! DEFINITION. Arithmetic, logic, compares, increments and decrements (43_arith_logic.md): one meaning per opcode. -/

namespace Sys2Proof.Machine

/-- ADC's effect on `A` and the flags (R340); `P.D` is not read (R359). -/
def addA (m : Byte) (s : State) : State :=
  setP (setA s (adcResult s.cpu.a m s.cpu.p.c)) (adcFlags s.cpu.p s.cpu.a m)

/-- SBC's effect on `A` and the flags (R341); `P.D` is not read (R359). -/
def subA (m : Byte) (s : State) : State :=
  setP (setA s (sbcResult s.cpu.a m s.cpu.p.c)) (sbcFlags s.cpu.p s.cpu.a m)

/-- AND's effect (R342). -/
def andA (m : Byte) (s : State) : State := loadA (s.cpu.a &&& m) s

/-- ORA's effect (R343). -/
def orA (m : Byte) (s : State) : State := loadA (s.cpu.a ||| m) s

/-- EOR's effect (R344). -/
def eorA (m : Byte) (s : State) : State := loadA (s.cpu.a ^^^ m) s

/-- A compare of register value `r` with `m` writes N, Z and C only (R345 to R347, R360). -/
def compareReg (r m : Byte) (s : State) : State := setP s (compareFlags s.cpu.p r m)

/-- BIT's effect (R348). -/
def testBits (m : Byte) (s : State) : State := setP s (bitFlags s.cpu.p s.cpu.a m)

/-! ### ADC, add with carry (R340) -/

/-- ADC `ADC ($nn,X)`, $61 (R340). -/
def execAdcIndx (o8 : Byte) (s : State) : Host.Outcome State Fault Refusal :=
  .next (runRead (.adcIndx o8) addA s)

/-- ADC `ADC $nn`, $65 (R340). -/
def execAdcZp (o8 : Byte) (s : State) : Host.Outcome State Fault Refusal :=
  .next (runRead (.adcZp o8) addA s)

/-- ADC `ADC #$nn`, $69 (R340). -/
def execAdcImm (o8 : Byte) (s : State) : Host.Outcome State Fault Refusal :=
  .next (runRead (.adcImm o8) addA s)

/-- ADC `ADC $nnnn`, $6D (R340). -/
def execAdcAbs (o16 : Word) (s : State) : Host.Outcome State Fault Refusal :=
  .next (runRead (.adcAbs o16) addA s)

/-- ADC `ADC ($nn),Y`, $71 (R340). -/
def execAdcIndy (o8 : Byte) (s : State) : Host.Outcome State Fault Refusal :=
  .next (runRead (.adcIndy o8) addA s)

/-- ADC `ADC $nn,X`, $75 (R340). -/
def execAdcZpx (o8 : Byte) (s : State) : Host.Outcome State Fault Refusal :=
  .next (runRead (.adcZpx o8) addA s)

/-- ADC `ADC $nnnn,Y`, $79 (R340). -/
def execAdcAbsy (o16 : Word) (s : State) : Host.Outcome State Fault Refusal :=
  .next (runRead (.adcAbsy o16) addA s)

/-- ADC `ADC $nnnn,X`, $7D (R340). -/
def execAdcAbsx (o16 : Word) (s : State) : Host.Outcome State Fault Refusal :=
  .next (runRead (.adcAbsx o16) addA s)

/-! ### SBC, subtract with borrow (R341) -/

/-- SBC `SBC ($nn,X)`, $E1 (R341). -/
def execSbcIndx (o8 : Byte) (s : State) : Host.Outcome State Fault Refusal :=
  .next (runRead (.sbcIndx o8) subA s)

/-- SBC `SBC $nn`, $E5 (R341). -/
def execSbcZp (o8 : Byte) (s : State) : Host.Outcome State Fault Refusal :=
  .next (runRead (.sbcZp o8) subA s)

/-- SBC `SBC #$nn`, $E9 (R341). -/
def execSbcImm (o8 : Byte) (s : State) : Host.Outcome State Fault Refusal :=
  .next (runRead (.sbcImm o8) subA s)

/-- SBC `SBC $nnnn`, $ED (R341). -/
def execSbcAbs (o16 : Word) (s : State) : Host.Outcome State Fault Refusal :=
  .next (runRead (.sbcAbs o16) subA s)

/-- SBC `SBC ($nn),Y`, $F1 (R341). -/
def execSbcIndy (o8 : Byte) (s : State) : Host.Outcome State Fault Refusal :=
  .next (runRead (.sbcIndy o8) subA s)

/-- SBC `SBC $nn,X`, $F5 (R341). -/
def execSbcZpx (o8 : Byte) (s : State) : Host.Outcome State Fault Refusal :=
  .next (runRead (.sbcZpx o8) subA s)

/-- SBC `SBC $nnnn,Y`, $F9 (R341). -/
def execSbcAbsy (o16 : Word) (s : State) : Host.Outcome State Fault Refusal :=
  .next (runRead (.sbcAbsy o16) subA s)

/-- SBC `SBC $nnnn,X`, $FD (R341). -/
def execSbcAbsx (o16 : Word) (s : State) : Host.Outcome State Fault Refusal :=
  .next (runRead (.sbcAbsx o16) subA s)

/-! ### AND, bitwise and (R342) -/

/-- AND `AND ($nn,X)`, $21 (R342). -/
def execAndIndx (o8 : Byte) (s : State) : Host.Outcome State Fault Refusal :=
  .next (runRead (.andIndx o8) andA s)

/-- AND `AND $nn`, $25 (R342). -/
def execAndZp (o8 : Byte) (s : State) : Host.Outcome State Fault Refusal :=
  .next (runRead (.andZp o8) andA s)

/-- AND `AND #$nn`, $29 (R342). -/
def execAndImm (o8 : Byte) (s : State) : Host.Outcome State Fault Refusal :=
  .next (runRead (.andImm o8) andA s)

/-- AND `AND $nnnn`, $2D (R342). -/
def execAndAbs (o16 : Word) (s : State) : Host.Outcome State Fault Refusal :=
  .next (runRead (.andAbs o16) andA s)

/-- AND `AND ($nn),Y`, $31 (R342). -/
def execAndIndy (o8 : Byte) (s : State) : Host.Outcome State Fault Refusal :=
  .next (runRead (.andIndy o8) andA s)

/-- AND `AND $nn,X`, $35 (R342). -/
def execAndZpx (o8 : Byte) (s : State) : Host.Outcome State Fault Refusal :=
  .next (runRead (.andZpx o8) andA s)

/-- AND `AND $nnnn,Y`, $39 (R342). -/
def execAndAbsy (o16 : Word) (s : State) : Host.Outcome State Fault Refusal :=
  .next (runRead (.andAbsy o16) andA s)

/-- AND `AND $nnnn,X`, $3D (R342). -/
def execAndAbsx (o16 : Word) (s : State) : Host.Outcome State Fault Refusal :=
  .next (runRead (.andAbsx o16) andA s)

/-! ### ORA, bitwise or (R343) -/

/-- ORA `ORA ($nn,X)`, $01 (R343). -/
def execOraIndx (o8 : Byte) (s : State) : Host.Outcome State Fault Refusal :=
  .next (runRead (.oraIndx o8) orA s)

/-- ORA `ORA $nn`, $05 (R343). -/
def execOraZp (o8 : Byte) (s : State) : Host.Outcome State Fault Refusal :=
  .next (runRead (.oraZp o8) orA s)

/-- ORA `ORA #$nn`, $09 (R343). -/
def execOraImm (o8 : Byte) (s : State) : Host.Outcome State Fault Refusal :=
  .next (runRead (.oraImm o8) orA s)

/-- ORA `ORA $nnnn`, $0D (R343). -/
def execOraAbs (o16 : Word) (s : State) : Host.Outcome State Fault Refusal :=
  .next (runRead (.oraAbs o16) orA s)

/-- ORA `ORA ($nn),Y`, $11 (R343). -/
def execOraIndy (o8 : Byte) (s : State) : Host.Outcome State Fault Refusal :=
  .next (runRead (.oraIndy o8) orA s)

/-- ORA `ORA $nn,X`, $15 (R343). -/
def execOraZpx (o8 : Byte) (s : State) : Host.Outcome State Fault Refusal :=
  .next (runRead (.oraZpx o8) orA s)

/-- ORA `ORA $nnnn,Y`, $19 (R343). -/
def execOraAbsy (o16 : Word) (s : State) : Host.Outcome State Fault Refusal :=
  .next (runRead (.oraAbsy o16) orA s)

/-- ORA `ORA $nnnn,X`, $1D (R343). -/
def execOraAbsx (o16 : Word) (s : State) : Host.Outcome State Fault Refusal :=
  .next (runRead (.oraAbsx o16) orA s)

/-! ### EOR, bitwise exclusive or (R344) -/

/-- EOR `EOR ($nn,X)`, $41 (R344). -/
def execEorIndx (o8 : Byte) (s : State) : Host.Outcome State Fault Refusal :=
  .next (runRead (.eorIndx o8) eorA s)

/-- EOR `EOR $nn`, $45 (R344). -/
def execEorZp (o8 : Byte) (s : State) : Host.Outcome State Fault Refusal :=
  .next (runRead (.eorZp o8) eorA s)

/-- EOR `EOR #$nn`, $49 (R344). -/
def execEorImm (o8 : Byte) (s : State) : Host.Outcome State Fault Refusal :=
  .next (runRead (.eorImm o8) eorA s)

/-- EOR `EOR $nnnn`, $4D (R344). -/
def execEorAbs (o16 : Word) (s : State) : Host.Outcome State Fault Refusal :=
  .next (runRead (.eorAbs o16) eorA s)

/-- EOR `EOR ($nn),Y`, $51 (R344). -/
def execEorIndy (o8 : Byte) (s : State) : Host.Outcome State Fault Refusal :=
  .next (runRead (.eorIndy o8) eorA s)

/-- EOR `EOR $nn,X`, $55 (R344). -/
def execEorZpx (o8 : Byte) (s : State) : Host.Outcome State Fault Refusal :=
  .next (runRead (.eorZpx o8) eorA s)

/-- EOR `EOR $nnnn,Y`, $59 (R344). -/
def execEorAbsy (o16 : Word) (s : State) : Host.Outcome State Fault Refusal :=
  .next (runRead (.eorAbsy o16) eorA s)

/-- EOR `EOR $nnnn,X`, $5D (R344). -/
def execEorAbsx (o16 : Word) (s : State) : Host.Outcome State Fault Refusal :=
  .next (runRead (.eorAbsx o16) eorA s)

/-! ### CMP, compare accumulator (R345) -/

/-- CMP `CMP ($nn,X)`, $C1 (R345). -/
def execCmpIndx (o8 : Byte) (s : State) : Host.Outcome State Fault Refusal :=
  .next (runRead (.cmpIndx o8) (fun m s => compareReg s.cpu.a m s) s)

/-- CMP `CMP $nn`, $C5 (R345). -/
def execCmpZp (o8 : Byte) (s : State) : Host.Outcome State Fault Refusal :=
  .next (runRead (.cmpZp o8) (fun m s => compareReg s.cpu.a m s) s)

/-- CMP `CMP #$nn`, $C9 (R345). -/
def execCmpImm (o8 : Byte) (s : State) : Host.Outcome State Fault Refusal :=
  .next (runRead (.cmpImm o8) (fun m s => compareReg s.cpu.a m s) s)

/-- CMP `CMP $nnnn`, $CD (R345). -/
def execCmpAbs (o16 : Word) (s : State) : Host.Outcome State Fault Refusal :=
  .next (runRead (.cmpAbs o16) (fun m s => compareReg s.cpu.a m s) s)

/-- CMP `CMP ($nn),Y`, $D1 (R345). -/
def execCmpIndy (o8 : Byte) (s : State) : Host.Outcome State Fault Refusal :=
  .next (runRead (.cmpIndy o8) (fun m s => compareReg s.cpu.a m s) s)

/-- CMP `CMP $nn,X`, $D5 (R345). -/
def execCmpZpx (o8 : Byte) (s : State) : Host.Outcome State Fault Refusal :=
  .next (runRead (.cmpZpx o8) (fun m s => compareReg s.cpu.a m s) s)

/-- CMP `CMP $nnnn,Y`, $D9 (R345). -/
def execCmpAbsy (o16 : Word) (s : State) : Host.Outcome State Fault Refusal :=
  .next (runRead (.cmpAbsy o16) (fun m s => compareReg s.cpu.a m s) s)

/-- CMP `CMP $nnnn,X`, $DD (R345). -/
def execCmpAbsx (o16 : Word) (s : State) : Host.Outcome State Fault Refusal :=
  .next (runRead (.cmpAbsx o16) (fun m s => compareReg s.cpu.a m s) s)

/-! ### CPX, compare X (R346) -/

/-- CPX `CPX #$nn`, $E0 (R346). -/
def execCpxImm (o8 : Byte) (s : State) : Host.Outcome State Fault Refusal :=
  .next (runRead (.cpxImm o8) (fun m s => compareReg s.cpu.x m s) s)

/-- CPX `CPX $nn`, $E4 (R346). -/
def execCpxZp (o8 : Byte) (s : State) : Host.Outcome State Fault Refusal :=
  .next (runRead (.cpxZp o8) (fun m s => compareReg s.cpu.x m s) s)

/-- CPX `CPX $nnnn`, $EC (R346). -/
def execCpxAbs (o16 : Word) (s : State) : Host.Outcome State Fault Refusal :=
  .next (runRead (.cpxAbs o16) (fun m s => compareReg s.cpu.x m s) s)

/-! ### CPY, compare Y (R347) -/

/-- CPY `CPY #$nn`, $C0 (R347). -/
def execCpyImm (o8 : Byte) (s : State) : Host.Outcome State Fault Refusal :=
  .next (runRead (.cpyImm o8) (fun m s => compareReg s.cpu.y m s) s)

/-- CPY `CPY $nn`, $C4 (R347). -/
def execCpyZp (o8 : Byte) (s : State) : Host.Outcome State Fault Refusal :=
  .next (runRead (.cpyZp o8) (fun m s => compareReg s.cpu.y m s) s)

/-- CPY `CPY $nnnn`, $CC (R347). -/
def execCpyAbs (o16 : Word) (s : State) : Host.Outcome State Fault Refusal :=
  .next (runRead (.cpyAbs o16) (fun m s => compareReg s.cpu.y m s) s)

/-! ### BIT, test bits (R348) -/

/-- BIT `BIT $nn`, $24 (R348). -/
def execBitZp (o8 : Byte) (s : State) : Host.Outcome State Fault Refusal :=
  .next (runRead (.bitZp o8) testBits s)

/-- BIT `BIT $nnnn`, $2C (R348). -/
def execBitAbs (o16 : Word) (s : State) : Host.Outcome State Fault Refusal :=
  .next (runRead (.bitAbs o16) testBits s)

/-! ### INC, increment memory (R349) -/

/-- INC `INC $nn`, $E6 (R349). -/
def execIncZp (o8 : Byte) (s : State) : Host.Outcome State Fault Refusal :=
  .next (runModify (.incZp o8) (fun v _ => v + 1) (fun p v => setNZ p (v + 1)) s)

/-- INC `INC $nnnn`, $EE (R349). -/
def execIncAbs (o16 : Word) (s : State) : Host.Outcome State Fault Refusal :=
  .next (runModify (.incAbs o16) (fun v _ => v + 1) (fun p v => setNZ p (v + 1)) s)

/-- INC `INC $nn,X`, $F6 (R349). -/
def execIncZpx (o8 : Byte) (s : State) : Host.Outcome State Fault Refusal :=
  .next (runModify (.incZpx o8) (fun v _ => v + 1) (fun p v => setNZ p (v + 1)) s)

/-- INC `INC $nnnn,X`, $FE (R349). -/
def execIncAbsx (o16 : Word) (s : State) : Host.Outcome State Fault Refusal :=
  .next (runModify (.incAbsx o16) (fun v _ => v + 1) (fun p v => setNZ p (v + 1)) s)

/-! ### DEC, decrement memory (R350) -/

/-- DEC `DEC $nn`, $C6 (R350). -/
def execDecZp (o8 : Byte) (s : State) : Host.Outcome State Fault Refusal :=
  .next (runModify (.decZp o8) (fun v _ => v - 1) (fun p v => setNZ p (v - 1)) s)

/-- DEC `DEC $nnnn`, $CE (R350). -/
def execDecAbs (o16 : Word) (s : State) : Host.Outcome State Fault Refusal :=
  .next (runModify (.decAbs o16) (fun v _ => v - 1) (fun p v => setNZ p (v - 1)) s)

/-- DEC `DEC $nn,X`, $D6 (R350). -/
def execDecZpx (o8 : Byte) (s : State) : Host.Outcome State Fault Refusal :=
  .next (runModify (.decZpx o8) (fun v _ => v - 1) (fun p v => setNZ p (v - 1)) s)

/-- DEC `DEC $nnnn,X`, $DE (R350). -/
def execDecAbsx (o16 : Word) (s : State) : Host.Outcome State Fault Refusal :=
  .next (runModify (.decAbsx o16) (fun v _ => v - 1) (fun p v => setNZ p (v - 1)) s)

/-! ### INX, increment X (R351) -/

/-- INX `INX`, $E8 (R351). -/
def execInx (s : State) : Host.Outcome State Fault Refusal :=
  .next (runImplied .inx (fun s => loadX (s.cpu.x + 1) s) s)

/-! ### INY, increment Y (R352) -/

/-- INY `INY`, $C8 (R352). -/
def execIny (s : State) : Host.Outcome State Fault Refusal :=
  .next (runImplied .iny (fun s => loadY (s.cpu.y + 1) s) s)

/-! ### DEX, decrement X (R353) -/

/-- DEX `DEX`, $CA (R353). -/
def execDex (s : State) : Host.Outcome State Fault Refusal :=
  .next (runImplied .dex (fun s => loadX (s.cpu.x - 1) s) s)

/-! ### DEY, decrement Y (R354) -/

/-- DEY `DEY`, $88 (R354). -/
def execDey (s : State) : Host.Outcome State Fault Refusal :=
  .next (runImplied .dey (fun s => loadY (s.cpu.y - 1) s) s)

end Sys2Proof.Machine
end

