-- ==== Sys2Proof/Machine/ControlFlow.lean ====
section
/-! DEFINITION. Jumps, subroutine calls and branches (45_control_flow.md): one meaning per opcode. -/

namespace Sys2Proof.Machine

/-- JMP (R400): `PC <- EA`. -/
def runJump (i : Instr) (s : State) : State :=
  let r := resolveOf i s
  addCycles (cycleCount i.entry r.crossed) (setPC r.st r.ea)

/-- JSR after its stack check (R401): push `LastPC + 2`, then `PC <- EA`. -/
def callTarget (r : Resolved) : State := setPC (push16 (r.st.cpu.lastPC + 2) r.st) r.ea

/-- RTS after its stack check (R402): `PC <- Pull16() + 1`. -/
def returnCaller (s : State) : State :=
  let r := pull16 s
  setPC r.2 (r.1 + 1)

/-! ### JMP, jump (R400) -/

/-- JMP `JMP $nnnn`, $4C (R400). -/
def execJmpAbs (o16 : Word) (s : State) : Host.Outcome State Fault Refusal :=
  .next (runJump (.jmpAbs o16) s)

/-- JMP `JMP ($nnnn)`, $6C (R400). -/
def execJmpInd (o16 : Word) (s : State) : Host.Outcome State Fault Refusal :=
  .next (runJump (.jmpInd o16) s)

/-! ### JSR, jump to subroutine (R401) -/

/-- JSR `JSR $nnnn`, $20 (R401). -/
def execJsr (o16 : Word) (s : State) : Host.Outcome State Fault Refusal :=
  .next (runPush (.jsr o16) 2 callTarget s)

/-! ### RTS, return from subroutine (R402) -/

/-- RTS `RTS`, $60 (R402). -/
def execRts (s : State) : Host.Outcome State Fault Refusal :=
  .next (runPull .rts 2 returnCaller s)

/-! ### BCC, branch if carry clear (R404) -/

/-- BCC `BCC label`, $90 (R404). -/
def execBcc (o8 : Byte) (s : State) : Host.Outcome State Fault Refusal :=
  .next (runBranch (.bcc o8) (fun p => !p.c) s)

/-! ### BCS, branch if carry set (R405) -/

/-- BCS `BCS label`, $B0 (R405). -/
def execBcs (o8 : Byte) (s : State) : Host.Outcome State Fault Refusal :=
  .next (runBranch (.bcs o8) (fun p => p.c) s)

/-! ### BEQ, branch if Z set (R406) -/

/-- BEQ `BEQ label`, $F0 (R406). -/
def execBeq (o8 : Byte) (s : State) : Host.Outcome State Fault Refusal :=
  .next (runBranch (.beq o8) (fun p => p.z) s)

/-! ### BNE, branch if Z clear (R407) -/

/-- BNE `BNE label`, $D0 (R407). -/
def execBne (o8 : Byte) (s : State) : Host.Outcome State Fault Refusal :=
  .next (runBranch (.bne o8) (fun p => !p.z) s)

/-! ### BMI, branch if N set (R408) -/

/-- BMI `BMI label`, $30 (R408). -/
def execBmi (o8 : Byte) (s : State) : Host.Outcome State Fault Refusal :=
  .next (runBranch (.bmi o8) (fun p => p.n) s)

/-! ### BPL, branch if N clear (R409) -/

/-- BPL `BPL label`, $10 (R409). -/
def execBpl (o8 : Byte) (s : State) : Host.Outcome State Fault Refusal :=
  .next (runBranch (.bpl o8) (fun p => !p.n) s)

/-! ### BVC, branch if overflow clear (R410) -/

/-- BVC `BVC label`, $50 (R410). -/
def execBvc (o8 : Byte) (s : State) : Host.Outcome State Fault Refusal :=
  .next (runBranch (.bvc o8) (fun p => !p.v) s)

/-! ### BVS, branch if overflow set (R411) -/

/-- BVS `BVS label`, $70 (R411). -/
def execBvs (o8 : Byte) (s : State) : Host.Outcome State Fault Refusal :=
  .next (runBranch (.bvs o8) (fun p => p.v) s)

end Sys2Proof.Machine
end

