-- ==== Sys2Proof/Machine/FlagsSystem.lean ====
section
/-! DEFINITION. Flag instructions, NOP, BRK and RTI (46_flags_system.md): one meaning per opcode. -/

namespace Sys2Proof.Machine

/-- BRK after its stack check (R440): the interrupt entry through $FFFE, pushing `LastPC + BRK_RETURN_OFFSET` and the
status with the Break bit. -/
def softwareBreak (r : Resolved) : State :=
  takeInterrupt (r.st.cpu.lastPC + BitVec.ofNat 16 r.st.params.brkReturnOffset) true brkVector r.st

/-! ### CLC, clear carry (R430) -/

/-- CLC `CLC`, $18 (R430). -/
def execClc (s : State) : Host.Outcome State Fault Refusal :=
  .next (runImplied .clc (fun s => setP s { s.cpu.p with c := false }) s)

/-! ### SEC, set carry (R431) -/

/-- SEC `SEC`, $38 (R431). -/
def execSec (s : State) : Host.Outcome State Fault Refusal :=
  .next (runImplied .sec (fun s => setP s { s.cpu.p with c := true }) s)

/-! ### CLI, clear interrupt disable (R432) -/

/-- CLI `CLI`, $58 (R432). -/
def execCli (s : State) : Host.Outcome State Fault Refusal :=
  .next (runImplied .cli (fun s => setP s { s.cpu.p with i := false }) s)

/-! ### SEI, set interrupt disable (R433) -/

/-- SEI `SEI`, $78 (R433). -/
def execSei (s : State) : Host.Outcome State Fault Refusal :=
  .next (runImplied .sei (fun s => setP s { s.cpu.p with i := true }) s)

/-! ### CLD, clear decimal (R434) -/

/-- CLD `CLD`, $D8 (R434). -/
def execCld (s : State) : Host.Outcome State Fault Refusal :=
  .next (runImplied .cld (fun s => setP s { s.cpu.p with d := false }) s)

/-! ### SED, set decimal (R435) -/

/-- SED `SED`, $F8 (R435). -/
def execSed (s : State) : Host.Outcome State Fault Refusal :=
  .next (runImplied .sed (fun s => setP s { s.cpu.p with d := true }) s)

/-! ### CLV, clear overflow (R436) -/

/-- CLV `CLV`, $B8 (R436). -/
def execClv (s : State) : Host.Outcome State Fault Refusal :=
  .next (runImplied .clv (fun s => setP s { s.cpu.p with v := false }) s)

/-! ### NOP, no operation (R437) -/

/-- NOP `NOP`, $EA (R437). -/
def execNop (s : State) : Host.Outcome State Fault Refusal :=
  .next (runImplied .nop id s)

/-! ### BRK, software break (R440) -/

/-- BRK `BRK`, $00 (R440). -/
def execBrk (s : State) : Host.Outcome State Fault Refusal :=
  .next (runPush .brk 3 softwareBreak s)

/-! ### RTI, return from interrupt (R441) -/

/-- RTI `RTI`, $40 (R441). -/
def execRti (s : State) : Host.Outcome State Fault Refusal :=
  .next (runPull .rti 3 returnFromInterrupt s)

end Sys2Proof.Machine
end

