-- ==== Sys2Proof/Machine/ShiftRotate.lean ====
section
/-! DEFINITION. Shifts and rotates (44_shift_rotate.md): one meaning per opcode. -/

namespace Sys2Proof.Machine

/-! ### ASL, arithmetic shift left (R380) -/

/-- ASL `ASL $nn`, $06 (R380). -/
def execAslZp (o8 : Byte) (s : State) : Host.Outcome State Fault Refusal :=
  .next (runModify (.aslZp o8) (fun v _ => aslResult v) aslFlags s)

/-- ASL `ASL A`, $0A (R380). -/
def execAslAcc (s : State) : Host.Outcome State Fault Refusal :=
  .next (runModify .aslAcc (fun v _ => aslResult v) aslFlags s)

/-- ASL `ASL $nnnn`, $0E (R380). -/
def execAslAbs (o16 : Word) (s : State) : Host.Outcome State Fault Refusal :=
  .next (runModify (.aslAbs o16) (fun v _ => aslResult v) aslFlags s)

/-- ASL `ASL $nn,X`, $16 (R380). -/
def execAslZpx (o8 : Byte) (s : State) : Host.Outcome State Fault Refusal :=
  .next (runModify (.aslZpx o8) (fun v _ => aslResult v) aslFlags s)

/-- ASL `ASL $nnnn,X`, $1E (R380). -/
def execAslAbsx (o16 : Word) (s : State) : Host.Outcome State Fault Refusal :=
  .next (runModify (.aslAbsx o16) (fun v _ => aslResult v) aslFlags s)

/-! ### LSR, logical shift right (R381) -/

/-- LSR `LSR $nn`, $46 (R381). -/
def execLsrZp (o8 : Byte) (s : State) : Host.Outcome State Fault Refusal :=
  .next (runModify (.lsrZp o8) (fun v _ => lsrResult v) lsrFlags s)

/-- LSR `LSR A`, $4A (R381). -/
def execLsrAcc (s : State) : Host.Outcome State Fault Refusal :=
  .next (runModify .lsrAcc (fun v _ => lsrResult v) lsrFlags s)

/-- LSR `LSR $nnnn`, $4E (R381). -/
def execLsrAbs (o16 : Word) (s : State) : Host.Outcome State Fault Refusal :=
  .next (runModify (.lsrAbs o16) (fun v _ => lsrResult v) lsrFlags s)

/-- LSR `LSR $nn,X`, $56 (R381). -/
def execLsrZpx (o8 : Byte) (s : State) : Host.Outcome State Fault Refusal :=
  .next (runModify (.lsrZpx o8) (fun v _ => lsrResult v) lsrFlags s)

/-- LSR `LSR $nnnn,X`, $5E (R381). -/
def execLsrAbsx (o16 : Word) (s : State) : Host.Outcome State Fault Refusal :=
  .next (runModify (.lsrAbsx o16) (fun v _ => lsrResult v) lsrFlags s)

/-! ### ROL, rotate left through carry (R382) -/

/-- ROL `ROL $nn`, $26 (R382). -/
def execRolZp (o8 : Byte) (s : State) : Host.Outcome State Fault Refusal :=
  .next (runModify (.rolZp o8) rolResult rolFlags s)

/-- ROL `ROL A`, $2A (R382). -/
def execRolAcc (s : State) : Host.Outcome State Fault Refusal :=
  .next (runModify .rolAcc rolResult rolFlags s)

/-- ROL `ROL $nnnn`, $2E (R382). -/
def execRolAbs (o16 : Word) (s : State) : Host.Outcome State Fault Refusal :=
  .next (runModify (.rolAbs o16) rolResult rolFlags s)

/-- ROL `ROL $nn,X`, $36 (R382). -/
def execRolZpx (o8 : Byte) (s : State) : Host.Outcome State Fault Refusal :=
  .next (runModify (.rolZpx o8) rolResult rolFlags s)

/-- ROL `ROL $nnnn,X`, $3E (R382). -/
def execRolAbsx (o16 : Word) (s : State) : Host.Outcome State Fault Refusal :=
  .next (runModify (.rolAbsx o16) rolResult rolFlags s)

/-! ### ROR, rotate right through carry (R383) -/

/-- ROR `ROR $nn`, $66 (R383). -/
def execRorZp (o8 : Byte) (s : State) : Host.Outcome State Fault Refusal :=
  .next (runModify (.rorZp o8) rorResult rorFlags s)

/-- ROR `ROR A`, $6A (R383). -/
def execRorAcc (s : State) : Host.Outcome State Fault Refusal :=
  .next (runModify .rorAcc rorResult rorFlags s)

/-- ROR `ROR $nnnn`, $6E (R383). -/
def execRorAbs (o16 : Word) (s : State) : Host.Outcome State Fault Refusal :=
  .next (runModify (.rorAbs o16) rorResult rorFlags s)

/-- ROR `ROR $nn,X`, $76 (R383). -/
def execRorZpx (o8 : Byte) (s : State) : Host.Outcome State Fault Refusal :=
  .next (runModify (.rorZpx o8) rorResult rorFlags s)

/-- ROR `ROR $nnnn,X`, $7E (R383). -/
def execRorAbsx (o16 : Word) (s : State) : Host.Outcome State Fault Refusal :=
  .next (runModify (.rorAbsx o16) rorResult rorFlags s)

end Sys2Proof.Machine
end

