-- ==== Sys2Proof/Machine/Stack.lean ====
section
/-! DEFINITION. The stack instructions (42_stack.md): one meaning per opcode. -/

namespace Sys2Proof.Machine

/-- `v <- Pull8(); A <- v; SetNZ(v)` (R332). -/
def pullA (s : State) : State :=
  let v := pull8 s
  loadA v.1 v.2

/-- `v <- Pull8()`, then every flag from `v` and `P.U <- 1` (R333). -/
def pullP (s : State) : State :=
  let v := pull8 s
  setP v.2 (statusOfByte v.1)

/-! ### PHA, push accumulator (R330) -/

/-- PHA `PHA`, $48 (R330). -/
def execPha (s : State) : Host.Outcome State Fault Refusal :=
  .next (runPush .pha 1 (fun r => push8 r.st.cpu.a r.st) s)

/-! ### PHP, push processor status (R331) -/

/-- PHP `PHP`, $08 (R331). -/
def execPhp (s : State) : Host.Outcome State Fault Refusal :=
  .next (runPush .php 1 (fun r => push8 (statusByteWith r.st.cpu.p true) r.st) s)

/-! ### PLA, pull accumulator (R332) -/

/-- PLA `PLA`, $68 (R332). -/
def execPla (s : State) : Host.Outcome State Fault Refusal :=
  .next (runPull .pla 1 pullA s)

/-! ### PLP, pull processor status (R333) -/

/-- PLP `PLP`, $28 (R333). -/
def execPlp (s : State) : Host.Outcome State Fault Refusal :=
  .next (runPull .plp 1 pullP s)

end Sys2Proof.Machine
end

