-- ==== Sys2Proof/Machine/Dispatch.lean ====
section
/-! DEFINITION. The dispatch: one arm per constructor of `Instr`, each one direct call of that instruction's
own meaning. -/

namespace Sys2Proof.Machine

def exec (i : Instr) (s : State) : Host.Outcome State Fault Refusal :=
  match i with
  | .ldaIndx o8 => Sys2Proof.Machine.execLdaIndx o8 s
  | .ldaZp o8 => Sys2Proof.Machine.execLdaZp o8 s
  | .ldaImm o8 => Sys2Proof.Machine.execLdaImm o8 s
  | .ldaAbs o16 => Sys2Proof.Machine.execLdaAbs o16 s
  | .ldaIndy o8 => Sys2Proof.Machine.execLdaIndy o8 s
  | .ldaZpx o8 => Sys2Proof.Machine.execLdaZpx o8 s
  | .ldaAbsy o16 => Sys2Proof.Machine.execLdaAbsy o16 s
  | .ldaAbsx o16 => Sys2Proof.Machine.execLdaAbsx o16 s
  | .ldxImm o8 => Sys2Proof.Machine.execLdxImm o8 s
  | .ldxZp o8 => Sys2Proof.Machine.execLdxZp o8 s
  | .ldxAbs o16 => Sys2Proof.Machine.execLdxAbs o16 s
  | .ldxZpy o8 => Sys2Proof.Machine.execLdxZpy o8 s
  | .ldxAbsy o16 => Sys2Proof.Machine.execLdxAbsy o16 s
  | .ldyImm o8 => Sys2Proof.Machine.execLdyImm o8 s
  | .ldyZp o8 => Sys2Proof.Machine.execLdyZp o8 s
  | .ldyAbs o16 => Sys2Proof.Machine.execLdyAbs o16 s
  | .ldyZpx o8 => Sys2Proof.Machine.execLdyZpx o8 s
  | .ldyAbsx o16 => Sys2Proof.Machine.execLdyAbsx o16 s
  | .staIndx o8 => Sys2Proof.Machine.execStaIndx o8 s
  | .staZp o8 => Sys2Proof.Machine.execStaZp o8 s
  | .staAbs o16 => Sys2Proof.Machine.execStaAbs o16 s
  | .staIndy o8 => Sys2Proof.Machine.execStaIndy o8 s
  | .staZpx o8 => Sys2Proof.Machine.execStaZpx o8 s
  | .staAbsy o16 => Sys2Proof.Machine.execStaAbsy o16 s
  | .staAbsx o16 => Sys2Proof.Machine.execStaAbsx o16 s
  | .stxZp o8 => Sys2Proof.Machine.execStxZp o8 s
  | .stxAbs o16 => Sys2Proof.Machine.execStxAbs o16 s
  | .stxZpy o8 => Sys2Proof.Machine.execStxZpy o8 s
  | .styZp o8 => Sys2Proof.Machine.execStyZp o8 s
  | .styAbs o16 => Sys2Proof.Machine.execStyAbs o16 s
  | .styZpx o8 => Sys2Proof.Machine.execStyZpx o8 s
  | .tax => Sys2Proof.Machine.execTax s
  | .tay => Sys2Proof.Machine.execTay s
  | .txa => Sys2Proof.Machine.execTxa s
  | .tya => Sys2Proof.Machine.execTya s
  | .tsx => Sys2Proof.Machine.execTsx s
  | .txs => Sys2Proof.Machine.execTxs s
  | .pha => Sys2Proof.Machine.execPha s
  | .php => Sys2Proof.Machine.execPhp s
  | .pla => Sys2Proof.Machine.execPla s
  | .plp => Sys2Proof.Machine.execPlp s
  | .adcIndx o8 => Sys2Proof.Machine.execAdcIndx o8 s
  | .adcZp o8 => Sys2Proof.Machine.execAdcZp o8 s
  | .adcImm o8 => Sys2Proof.Machine.execAdcImm o8 s
  | .adcAbs o16 => Sys2Proof.Machine.execAdcAbs o16 s
  | .adcIndy o8 => Sys2Proof.Machine.execAdcIndy o8 s
  | .adcZpx o8 => Sys2Proof.Machine.execAdcZpx o8 s
  | .adcAbsy o16 => Sys2Proof.Machine.execAdcAbsy o16 s
  | .adcAbsx o16 => Sys2Proof.Machine.execAdcAbsx o16 s
  | .sbcIndx o8 => Sys2Proof.Machine.execSbcIndx o8 s
  | .sbcZp o8 => Sys2Proof.Machine.execSbcZp o8 s
  | .sbcImm o8 => Sys2Proof.Machine.execSbcImm o8 s
  | .sbcAbs o16 => Sys2Proof.Machine.execSbcAbs o16 s
  | .sbcIndy o8 => Sys2Proof.Machine.execSbcIndy o8 s
  | .sbcZpx o8 => Sys2Proof.Machine.execSbcZpx o8 s
  | .sbcAbsy o16 => Sys2Proof.Machine.execSbcAbsy o16 s
  | .sbcAbsx o16 => Sys2Proof.Machine.execSbcAbsx o16 s
  | .andIndx o8 => Sys2Proof.Machine.execAndIndx o8 s
  | .andZp o8 => Sys2Proof.Machine.execAndZp o8 s
  | .andImm o8 => Sys2Proof.Machine.execAndImm o8 s
  | .andAbs o16 => Sys2Proof.Machine.execAndAbs o16 s
  | .andIndy o8 => Sys2Proof.Machine.execAndIndy o8 s
  | .andZpx o8 => Sys2Proof.Machine.execAndZpx o8 s
  | .andAbsy o16 => Sys2Proof.Machine.execAndAbsy o16 s
  | .andAbsx o16 => Sys2Proof.Machine.execAndAbsx o16 s
  | .oraIndx o8 => Sys2Proof.Machine.execOraIndx o8 s
  | .oraZp o8 => Sys2Proof.Machine.execOraZp o8 s
  | .oraImm o8 => Sys2Proof.Machine.execOraImm o8 s
  | .oraAbs o16 => Sys2Proof.Machine.execOraAbs o16 s
  | .oraIndy o8 => Sys2Proof.Machine.execOraIndy o8 s
  | .oraZpx o8 => Sys2Proof.Machine.execOraZpx o8 s
  | .oraAbsy o16 => Sys2Proof.Machine.execOraAbsy o16 s
  | .oraAbsx o16 => Sys2Proof.Machine.execOraAbsx o16 s
  | .eorIndx o8 => Sys2Proof.Machine.execEorIndx o8 s
  | .eorZp o8 => Sys2Proof.Machine.execEorZp o8 s
  | .eorImm o8 => Sys2Proof.Machine.execEorImm o8 s
  | .eorAbs o16 => Sys2Proof.Machine.execEorAbs o16 s
  | .eorIndy o8 => Sys2Proof.Machine.execEorIndy o8 s
  | .eorZpx o8 => Sys2Proof.Machine.execEorZpx o8 s
  | .eorAbsy o16 => Sys2Proof.Machine.execEorAbsy o16 s
  | .eorAbsx o16 => Sys2Proof.Machine.execEorAbsx o16 s
  | .cmpIndx o8 => Sys2Proof.Machine.execCmpIndx o8 s
  | .cmpZp o8 => Sys2Proof.Machine.execCmpZp o8 s
  | .cmpImm o8 => Sys2Proof.Machine.execCmpImm o8 s
  | .cmpAbs o16 => Sys2Proof.Machine.execCmpAbs o16 s
  | .cmpIndy o8 => Sys2Proof.Machine.execCmpIndy o8 s
  | .cmpZpx o8 => Sys2Proof.Machine.execCmpZpx o8 s
  | .cmpAbsy o16 => Sys2Proof.Machine.execCmpAbsy o16 s
  | .cmpAbsx o16 => Sys2Proof.Machine.execCmpAbsx o16 s
  | .cpxImm o8 => Sys2Proof.Machine.execCpxImm o8 s
  | .cpxZp o8 => Sys2Proof.Machine.execCpxZp o8 s
  | .cpxAbs o16 => Sys2Proof.Machine.execCpxAbs o16 s
  | .cpyImm o8 => Sys2Proof.Machine.execCpyImm o8 s
  | .cpyZp o8 => Sys2Proof.Machine.execCpyZp o8 s
  | .cpyAbs o16 => Sys2Proof.Machine.execCpyAbs o16 s
  | .bitZp o8 => Sys2Proof.Machine.execBitZp o8 s
  | .bitAbs o16 => Sys2Proof.Machine.execBitAbs o16 s
  | .incZp o8 => Sys2Proof.Machine.execIncZp o8 s
  | .incAbs o16 => Sys2Proof.Machine.execIncAbs o16 s
  | .incZpx o8 => Sys2Proof.Machine.execIncZpx o8 s
  | .incAbsx o16 => Sys2Proof.Machine.execIncAbsx o16 s
  | .decZp o8 => Sys2Proof.Machine.execDecZp o8 s
  | .decAbs o16 => Sys2Proof.Machine.execDecAbs o16 s
  | .decZpx o8 => Sys2Proof.Machine.execDecZpx o8 s
  | .decAbsx o16 => Sys2Proof.Machine.execDecAbsx o16 s
  | .inx => Sys2Proof.Machine.execInx s
  | .iny => Sys2Proof.Machine.execIny s
  | .dex => Sys2Proof.Machine.execDex s
  | .dey => Sys2Proof.Machine.execDey s
  | .aslZp o8 => Sys2Proof.Machine.execAslZp o8 s
  | .aslAcc => Sys2Proof.Machine.execAslAcc s
  | .aslAbs o16 => Sys2Proof.Machine.execAslAbs o16 s
  | .aslZpx o8 => Sys2Proof.Machine.execAslZpx o8 s
  | .aslAbsx o16 => Sys2Proof.Machine.execAslAbsx o16 s
  | .lsrZp o8 => Sys2Proof.Machine.execLsrZp o8 s
  | .lsrAcc => Sys2Proof.Machine.execLsrAcc s
  | .lsrAbs o16 => Sys2Proof.Machine.execLsrAbs o16 s
  | .lsrZpx o8 => Sys2Proof.Machine.execLsrZpx o8 s
  | .lsrAbsx o16 => Sys2Proof.Machine.execLsrAbsx o16 s
  | .rolZp o8 => Sys2Proof.Machine.execRolZp o8 s
  | .rolAcc => Sys2Proof.Machine.execRolAcc s
  | .rolAbs o16 => Sys2Proof.Machine.execRolAbs o16 s
  | .rolZpx o8 => Sys2Proof.Machine.execRolZpx o8 s
  | .rolAbsx o16 => Sys2Proof.Machine.execRolAbsx o16 s
  | .rorZp o8 => Sys2Proof.Machine.execRorZp o8 s
  | .rorAcc => Sys2Proof.Machine.execRorAcc s
  | .rorAbs o16 => Sys2Proof.Machine.execRorAbs o16 s
  | .rorZpx o8 => Sys2Proof.Machine.execRorZpx o8 s
  | .rorAbsx o16 => Sys2Proof.Machine.execRorAbsx o16 s
  | .jmpAbs o16 => Sys2Proof.Machine.execJmpAbs o16 s
  | .jmpInd o16 => Sys2Proof.Machine.execJmpInd o16 s
  | .jsr o16 => Sys2Proof.Machine.execJsr o16 s
  | .rts => Sys2Proof.Machine.execRts s
  | .bcc o8 => Sys2Proof.Machine.execBcc o8 s
  | .bcs o8 => Sys2Proof.Machine.execBcs o8 s
  | .beq o8 => Sys2Proof.Machine.execBeq o8 s
  | .bne o8 => Sys2Proof.Machine.execBne o8 s
  | .bmi o8 => Sys2Proof.Machine.execBmi o8 s
  | .bpl o8 => Sys2Proof.Machine.execBpl o8 s
  | .bvc o8 => Sys2Proof.Machine.execBvc o8 s
  | .bvs o8 => Sys2Proof.Machine.execBvs o8 s
  | .clc => Sys2Proof.Machine.execClc s
  | .sec => Sys2Proof.Machine.execSec s
  | .cli => Sys2Proof.Machine.execCli s
  | .sei => Sys2Proof.Machine.execSei s
  | .cld => Sys2Proof.Machine.execCld s
  | .sed => Sys2Proof.Machine.execSed s
  | .clv => Sys2Proof.Machine.execClv s
  | .nop => Sys2Proof.Machine.execNop s
  | .brk => Sys2Proof.Machine.execBrk s
  | .rti => Sys2Proof.Machine.execRti s

end Sys2Proof.Machine
end

