-- ==== Sys2Proof/Machine/Render.lean ====
section
/-! DEFINITION. The PPU's dot (61_ppu.md sections 4 to 6): the (scanline, dot) state machine, the scroll increments
and copies, sprite evaluation, background and sprite pixels, composition and the sprite-0 hit. -/

namespace Sys2Proof.Machine

/-- "Rendering enabled" (R621): `mask[3] = 1 or mask[4] = 1`. -/
def renderingOn (p : Ppu) : Bool := getBit p.mask 3 || getBit p.mask 4

/-! ## Scroll (R643 to R645) -/

/-- `IncrementY()` (R643). -/
def incrementY (v : BitVec 15) : BitVec 15 :=
  if (getField v 12 3).toNat < 7 then setField v 12 (getField v 12 3 + 1)
  else
    let v0 := setField v 12 (0#3)
    if (getField v 5 5).toNat = 29 then setField (setField v0 5 (0#5)) 11 (~~~(getField v0 11 1))
    else if (getField v 5 5).toNat = 31 then setField v0 5 (0#5)
    else setField v0 5 (getField v 5 5 + 1)

/-- `CopyHorizontal()` (R644). -/
def copyHorizontal (v t : BitVec 15) : BitVec 15 :=
  setField (setField v 10 (getField t 10 1)) 0 (getField t 0 5)

/-- `CopyVertical()` (R645). -/
def copyVertical (v t : BitVec 15) : BitVec 15 :=
  setField (setField v 11 (getField t 11 4)) 5 (getField t 5 5)

/-! ## Sprites (R650 to R653) -/

/-- Byte `k` of OAM entry `i` (R651): 0 Y, 1 tile, 2 attributes, 3 X. -/
def oamByte (p : Ppu) (i k : Nat) : Byte := cellRead p.oam (4 * i + k)

/-- Sprite height (R650). -/
def spriteHeight (p : Ppu) : Nat := if getBit p.ctrl 5 then 16 else 8

/-- Sprite `i` is visible on line `l` (R650): integer comparison, no wrap. -/
def spriteOnLine (p : Ppu) (l i : Nat) : Bool :=
  decide ((oamByte p i 0).toNat ≤ l) && decide (l < (oamByte p i 0).toNat + spriteHeight p)

/-- The scan of R650 over the entries still to come, with the sprites found so far: the line's list and whether a
ninth sprite was hit. -/
def scanSprites (p : Ppu) (l : Nat) : List Nat → List Nat → List Nat × Bool
  | [], found => (found, false)
  | i :: rest, found =>
    if spriteOnLine p l i then
      if found.length < 8 then scanSprites p l rest (found ++ [i]) else (found, true)
    else scanSprites p l rest found

/-- `EvaluateSprites(l)` (R650). -/
def evaluateSprites (p : Ppu) (l : Nat) : Ppu :=
  if renderingOn p then
    let r := scanSprites p l (List.range 64) []
    { p with lineSprites := r.1, overflow := p.overflow || r.2 }
  else { p with lineSprites := [] }

/-- The 2-bit colour of column `7 - bit` of a pattern row, from its two bitplane bytes (R614). -/
def planeColour (lo hi : Byte) (bit : Nat) : Nat := byteBit lo bit + 2 * byteBit hi bit

/-- `SpriteColour(i, l, d)` (R652): the colour 0..3 of sprite `i` at line `l`, dot `d`. The row is an integer: OAM may
have changed since the line's evaluation, and the pattern address is then masked to 14 bits like every PPU address
(DEDUCED, log entry 8). -/
def spriteColour (s : State) (i l d : Nat) : Nat :=
  let y := (oamByte s.ppu i 0).toNat
  let tile := (oamByte s.ppu i 1).toNat
  let at' := oamByte s.ppu i 2
  let x := (oamByte s.ppu i 3).toNat
  if x ≤ d ∧ d < x + 8 then
    let h := spriteHeight s.ppu
    let row0 : Int := (l : Int) - y
    let row1 : Int := if getBit at' 7 then (h : Int) - 1 - row0 else row0
    let big := decide (h = 16)
    let base : Nat := if big then tile % 2 * 0x1000 else (if getBit s.ppu.ctrl 3 then 0x1000 else 0)
    let lower := big && decide (row1 ≥ 8)
    let t : Nat := if big then tile / 2 * 2 + bitNat lower else tile
    let row : Int := if lower then row1 - 8 else row1
    let addr : Nat := (((base + 16 * t : Nat) : Int) + row).emod 0x4000 |>.toNat
    let col := if getBit at' 6 then 7 - (d - x) else d - x
    planeColour (ppuRead s addr) (ppuRead s (addr + 8)) (7 - col)
  else 0

/-- Sprites are shown at dot `d` (R653): enabled and not clipped. -/
def spritesShown (p : Ppu) (d : Nat) : Bool := getBit p.mask 4 && !(decide (d < 8) && !getBit p.mask 2)

/-- The first sprite of the list with a non-zero colour at dot `d` of line `l`: its colour, palette and priority
(R653); colour 0 when there is none. -/
def firstSprite (s : State) (l d : Nat) : List Nat → Nat × Nat × Bool
  | [] => (0, 0, false)
  | i :: rest =>
    let c := spriteColour s i l d
    if c ≠ 0 then (c, (getField (oamByte s.ppu i 2) 0 2).toNat, getBit (oamByte s.ppu i 2) 5)
    else firstSprite s l d rest

/-- The sprite pixel at dot `d` of line `l` (R653). -/
def spritePixel (s : State) (l d : Nat) : Nat × Nat × Bool :=
  if spritesShown s.ppu d then firstSprite s l d s.ppu.lineSprites else (0, 0, false)

/-! ## Background (R655) -/

/-- `BgColour(d)` (R655): the palette and colour of the background at dot `d`, from the current `v` and fine X. -/
def bgColour (s : State) (d : Nat) : Nat × Nat :=
  let p := s.ppu
  if getBit p.mask 3 && !(decide (d < 8) && !getBit p.mask 1) then
    let px := p.x.toNat + d
    let cx0 := (getField p.v 0 5).toNat + px / 8
    let ntx := ((getField p.v 10 1).toNat + cx0 / 32) % 2
    let cx := cx0 % 32
    let cy := (getField p.v 5 5).toNat
    let nty := (getField p.v 11 1).toNat
    let fy := (getField p.v 12 3).toNat
    let nb := 0x2000 + nty * 0x800 + ntx * 0x400
    let tile := (ppuRead s (nb + cy * 32 + cx)).toNat
    let attr := (ppuRead s (nb + 0x3C0 + cy / 4 * 8 + cx / 4)).toNat
    let pal := attr / 2 ^ (cy / 2 % 2 * 4 + cx / 2 % 2 * 2) % 4
    let base := if getBit p.ctrl 4 then 0x1000 else 0
    let addr := base + 16 * tile + fy
    (pal, planeColour (ppuRead s addr) (ppuRead s (addr + 8)) (7 - px % 8))
  else (0, 0)

/-! ## Composition (R662, R663, R666) -/

/-- The sprite-0 test of R662 at dot `d` of line `l`, for background colour `bc`. -/
def sprite0Overlap (s : State) (l d bc : Nat) : Bool :=
  match s.ppu.lineSprites with
  | 0 :: _ => spritesShown s.ppu d && decide (spriteColour s 0 l d ≠ 0) && decide (bc ≠ 0)
  | _ => false

/-- The palette entry composition selects (R666): the priority multiplexer. -/
def paletteEntry (bp bc sc sp : Nat) (behind : Bool) : Nat :=
  if bc = 0 ∧ sc = 0 then 0
  else if bc = 0 then 0x10 + sp * 4 + sc
  else if sc = 0 then bp * 4 + bc
  else if behind then bp * 4 + bc else 0x10 + sp * 4 + sc

/-- The entry composed at dot `d` of line `l` and the sprite-0 bookkeeping (R666): the backdrop when rendering is
off (R667). -/
def composeEntry (s : State) (l d : Nat) : Nat × Bool :=
  if renderingOn s.ppu then
    let bg := bgColour s d
    let sp := spritePixel s l d
    (paletteEntry bg.1 bg.2 sp.1 sp.2.1 sp.2.2, s.ppu.s0line || sprite0Overlap s l d bg.2)
  else (0, s.ppu.s0line)

/-- `ComposePixel(l, d)` (R666): writes `FB[l][d]`, or raises InvalidColorIndex on a palette byte of $40 or more. -/
def composePixel (s : State) (l d : Nat) : State :=
  let e := composeEntry s l d
  let p := { s.ppu with s0line := e.2 }
  let k := cellRead p.pal (palIndex (0x3F00 + e.1))
  if k.toNat ≥ 0x40 then (s.withPpu p).withFault (some (.invalidColorIndex k l d))
  else
    let k' := if getBit p.mask 0 then k &&& 0x30 else k
    s.withPpu { p with fb := cellWrite p.fb (256 * l + d) (k'.setWidth 6) }

/-- `FinaliseSprite0()` (R663). -/
def finaliseSprite0 (p : Ppu) : Ppu :=
  if p.s0line && !p.s0latched then { p with sprite0hit := true, s0latched := true, s0line := false }
  else { p with s0line := false }

/-- `StartVBlank()` (R660): the NMI is raised here only, when it is enabled (R664). -/
def startVBlank (p : Ppu) : Ppu := { p with vblank := true, nmiPending := p.nmiPending || getBit p.ctrl 7 }

/-- `ClearFrameFlags()` (R661). -/
def clearFrameFlags (p : Ppu) : Ppu :=
  { p with vblank := false, sprite0hit := false, overflow := false, s0latched := false, s0line := false }

/-! ## The dot (R640) -/

/-- The advance of the position: 341 dots a line, 262 lines a frame, no dot skipped (R640, R641). -/
def advanceDot (p : Ppu) : Ppu :=
  if p.dot + 1 = 341 then { p with dot := 0, scanline := if p.scanline + 1 = 262 then 0 else p.scanline + 1 }
  else { p with dot := p.dot + 1 }

/-- What dot (l, d) does after the pixel: sprite-0 finalisation, scroll, VBlank start and end, in the order of R640.
`on` is "rendering enabled" at the dot's start. -/
def dotEvents (params : Params) (l d : Nat) (on : Bool) (p : Ppu) : Ppu :=
  let line := decide (l ≤ 239)
  let scroll := (line || decide (l = 261)) && on
  let p := if line && decide (d = 257) then finaliseSprite0 p else p
  let p := if scroll && decide (d = 256) then { p with v := incrementY p.v } else p
  let p := if scroll && decide (d = 257) then { p with v := copyHorizontal p.v p.t } else p
  let p := if decide (l = 241) && decide (d = params.vblankSetDot) then startVBlank p else p
  let p := if decide (l = 261) && decide (d = params.vblankClearDot) then clearFrameFlags p else p
  if decide (l = 261) && decide (280 ≤ d) && decide (d ≤ 304) && on then { p with v := copyVertical p.v p.t } else p

/-- The visible part of a dot: sprite evaluation at dot 0 and the pixel at dots 0..255 of lines 0..239. -/
def dotPixel (s : State) : State :=
  let l := s.ppu.scanline
  let d := s.ppu.dot
  if l ≤ 239 ∧ d ≤ 255 then
    composePixel (if d = 0 then s.withPpu (evaluateSprites s.ppu l) else s) l d
  else s

/-- `PpuDot()` (R640). When the pixel raises a fault the rest of the dot and the advance do not happen (R504). -/
def ppuDot (s : State) : State :=
  let s1 := dotPixel s
  match s1.fault with
  | some _ => s1
  | none =>
    s1.withPpu (advanceDot (dotEvents s.params s.ppu.scanline s.ppu.dot (renderingOn s.ppu) s1.ppu))

end Sys2Proof.Machine
end

