-- ==== Sys2Proof/WellFormed.lean ====
section
/-! DEFINITION. Well-formedness of an instruction: its opcode is in the wired set of the parameters. The
operands need no check, since every operand bit is used (R211). -/

namespace Sys2Proof

/-- `op` is in `WIRED_OPCODES` (R212): it is not one of the documented opcodes the parameter takes out. -/
def Params.wired (p : Params) (op : Byte) : Bool := !(p.unwired.contains op)

/-- The instruction's opcode is wired (R212). With the default parameters every instruction is. -/
def Instr.wellFormed (p : Params) (i : Instr) : Bool := p.wired i.opcode

end Sys2Proof
end

