-- ==== Sys2Proof/Machine/Loop.lean ====
section
/-! DEFINITION. The parts of a loop step around the instruction (64_execution_loop.md): the fetch, the device advance and
the NMI check; and the placement of an instruction where the next step fetches. -/

namespace Sys2Proof.Machine

/-! ## Fetch (R250, R251, R252) -/

/-- What the fetch at `PC` gives, with the state after its reads. -/
inductive Fetched where
  /-- the opcode byte is not wired (R251) -/
  | unwired (op : Byte) (s : State)
  /-- an instruction with its operand -/
  | instr (i : Instr) (s : State)

/-- Fetch the instruction at `PC` through the decoder (R111): the opcode byte, its table entry (R208), then the operand
bytes the entry's length asks for, the low one first (R252). -/
def fetchInstr (s : State) : Fetched :=
  let op := memRead s.cpu.pc s
  if s.params.wired op.1 then
    match opcodeMap op.1 with
    | .unwired => .unwired op.1 op.2
    | .f1 i => .instr i op.2
    | .f2 mk =>
      let o := memRead (s.cpu.pc + 1) op.2
      .instr (mk o.1) o.2
    | .f3 mk =>
      let lo := memRead (s.cpu.pc + 1) op.2
      let hi := memRead (s.cpu.pc + 2) lo.2
      .instr (mk (wordOf lo.1 hi.1)) hi.2
  else .unwired op.1 op.2

/-! ## Device advance (R851) -/

/-- One CPU cycle of the devices: three dots, then one tick; a fault of a dot stops it there (R504). -/
def advanceOne (s : State) : State :=
  let s1 := ppuDot s
  match s1.fault with
  | some _ => s1
  | none =>
    let s2 := ppuDot s1
    match s2.fault with
    | some _ => s2
    | none =>
      let s3 := ppuDot s2
      match s3.fault with
      | some _ => s3
      | none => apuTick s3

/-- `AdvanceDevices(n)` (R851), ended by a fault (R504). -/
def advanceDevices : Nat → State → State
  | 0, s => s
  | n + 1, s =>
    let s1 := advanceOne s
    match s1.fault with
    | some _ => s1
    | none => advanceDevices n s1

/-! ## The NMI check (R520, R850) -/

/-- `PullNMI()` clears the flag (R520). -/
def pullNmi (s : State) : State := s.withPpu { s.ppu with nmiPending := false }

/-- Advance the devices by the cycles `s'` has counted since `s` (R850). -/
def mirrorCycles (s s' : State) : State := advanceDevices (s'.cycles - s.cycles) s'

/-- The NMI check and the entry it makes (R520, R850): the flag is cleared, and the entry's cycles are mirrored too. -/
def nmiCheck (s : State) : State :=
  if s.ppu.nmiPending then
    let s1 := pullNmi s
    let s2 := nmiEntry s1
    match s2.fault with
    | some _ => s2
    | none => mirrorCycles s1 s2
  else s

/-- The rest of a loop step after the instruction (R850): `s` is the state before the instruction, `s'` after it. A fault
ends the step where it is raised (R503, R504). -/
def afterInstr (s s' : State) : State :=
  match s'.fault with
  | some _ => s'
  | none =>
    let s1 := mirrorCycles s s'
    match s1.fault with
    | some _ => s1
    | none => nmiCheck s1

/-- The state a fetch of an unwired opcode leaves (R251): the fault record alone is new. -/
def faultUnwired (op : Byte) (s : State) : State := raise (.unimplementedOpcode op s.cpu.pc) s

/-! ## Placing an instruction where the next step fetches -/

/-- Every byte of the three at `a` has a storage cell. -/
def holdsThree (s : State) (a : Word) : Bool := holdsByte s a && holdsByte s (a + 1) && holdsByte s (a + 2)

/-- The state whose `PC` is at three storable bytes: `s` itself, or `s` with `PC` at $0000 (work RAM) when `PC` is at a port
or at a region without storage. -/
def atStorage (s : State) : State := if holdsThree s s.cpu.pc then s else s.withCpu { s.cpu with pc := 0 }

/-- The bytes `bs` put at `a`, `a + 1`, ... -/
def pokeBytes : Word → List Byte → State → State
  | _, [], s => s
  | a, b :: bs, s => pokeBytes (a + 1) bs (poke a b s)

/-- The instruction whose first `nbits` bits are `w` (the rest 0) stored where the next step fetches. -/
def placeTableWord (s : State) (nbits w : Nat) : State :=
  pokeBytes (atStorage s).cpu.pc (tableBytes nbits w) (atStorage s)

end Sys2Proof.Machine
end

