-- ==== Sys2Proof/Machine/Step.lean ====
section
/-! DEFINITION. The loop step (R850) and the placement of one instruction where it fetches. -/

namespace Sys2Proof.Machine

/-- One loop step (R850): fetch, execute, advance the PPU and the APU by the instruction's cycles, check for the NMI. A
state that holds a fault has no successor (R505). -/
def step (s : State) : Host.Outcome State Fault Refusal :=
  match s.fault with
  | some f => .fault f
  | none =>
    match fetchInstr s with
    | .unwired op s1 => .next (faultUnwired op s1)
    | .instr i s1 =>
      match exec i s1 with
      | .next s2 => .next (afterInstr s1 s2)
      | .fault f => .fault f
      | .refused r => .refused r

/-- `s` with the instruction whose first `nbits` bits are `w`, numbered as spec/opcode_table.json numbers them, stored
where `step` fetches its next instruction (log entry 10). -/
def State.withFetchWord (s : State) (nbits w : Nat) : State := placeTableWord s nbits w

end Sys2Proof.Machine
end

