-- ==== Sys2Proof/Machine/HostOps.lean ====
section
/-! DEFINITION. The host's interactions with the CORE (64_execution_loop.md R860, 70_reset_and_hazards.md R900): each
happens at a step boundary only, never inside a loop step. -/

namespace Sys2Proof.Machine

/-! ## Installation and power-on reset (R506, R900, R901, R903) -/

/-- The reset draws of R901: the free inputs of a power-on. The palette draws are 6-bit values, $00-$3F (R50, D53). -/
structure Draws where
  a : Byte
  x : Byte
  y : Byte
  s : Byte
  c : Bool
  z : Bool
  d : Bool
  v : Bool
  n : Bool
  b : Bool
  /-- work RAM and cartridge-region RAM (R46) -/
  ram : Memory
  /-- CHR RAM (R47) -/
  chrRam : Memory
  nt : Memory
  oam : Memory
  pal : Cells 6
  fb : Cells 6
  deriving DecidableEq, Repr

/-- Every draw 0 (DESIGN CHOICE, log entry 2). -/
def Draws.zero : Draws :=
  { a := 0, x := 0, y := 0, s := 0, c := false, z := false, d := false, v := false, n := false, b := false,
    ram := [], chrRam := [], nt := [], oam := [], pal := [], fb := [] }

/-- A palette of 6-bit values as the palette RAM's bytes. -/
def paletteBytes (pal : Cells 6) : Memory := pal.map (fun e => (e.1, e.2.setWidth 8))

/-- Every state field at its reset value or draw (R901), before the vector is read and the reset cycles are mirrored. -/
def coldState (p : Params) (c : Cartridge) (m : Mapper) (d : Draws) : State :=
  { params := p
    cart := c
    cpu :=
      { a := d.a, x := d.x, y := d.y, s := d.s
        p := { n := d.n, v := d.v, b := d.b, d := d.d, i := true, z := d.z, c := d.c }
        pc := 0, lastPC := 0 }
    ram := d.ram
    chrRam := d.chrRam
    mapper := m
    ppu := Ppu.reset d.nt (paletteBytes d.pal) d.oam d.fb
    apu := Apu.reset
    pad := Pad.reset
    cycles := 0
    fault := none }

/-- `Reset()` (R900) from the cold state: `PC` and `LastPC` are the word at $FFFC, `RESET_CYCLES` are counted and
mirrored by dots and ticks. No stack access is made. -/
def resetSequence (s : State) : State :=
  let r := memRead16 resetVector s
  let s1 := r.2.withCpu { r.2.cpu with pc := r.1, lastPC := r.1 }
  mirrorCycles s1 (addCycles s1.params.resetCycles s1)

/-- Installing a cartridge and powering on (R903): the mapper is chosen by id, or the LoadError is recorded and the reset
is not performed (R506). -/
def powerOn (p : Params) (c : Cartridge) (d : Draws) : State :=
  match chooseMapper c with
  | .error r => raise (.loadError r) (coldState p c .absent d)
  | .ok m => resetSequence (coldState p c m d)

/-! ## Between loop steps (R860) -/

/- R505 says that after a fault the host can only read the state; R860 lets it press buttons and take samples at any step
boundary. DESIGN CHOICE (log entry 18): these operations act on every state, one that holds a fault too. -/

/-- `buttonDown(b)` (R800): sets bit `b` of the button mask; after a fault too (DESIGN CHOICE, log entry 18). -/
def buttonDown (b : Fin 8) (s : State) : State :=
  s.withPad { s.pad with buttons := s.pad.buttons ||| (1#8 <<< b.val) }

/-- `buttonUp(b)` (R800): clears bit `b` of the button mask; after a fault too (DESIGN CHOICE, log entry 18). -/
def buttonUp (b : Fin 8) (s : State) : State :=
  s.withPad { s.pad with buttons := s.pad.buttons &&& ~~~(1#8 <<< b.val) }

/-- Taking a sample chunk (R751): with at least `AUDIO_CHUNK` samples held, the first `AUDIO_CHUNK` are removed and
handed over; with fewer, nothing. After a fault too (DESIGN CHOICE, log entry 18). -/
def takeSamples (s : State) : List Byte × State :=
  if Config.audioChunk ≤ s.apu.samples.length then
    (s.apu.samples.take Config.audioChunk, s.withApu { s.apu with samples := s.apu.samples.drop Config.audioChunk })
  else ([], s)

/-- Reading pixel (y, x) of the framebuffer (R52, R860). -/
def framePixel (s : State) (y x : Nat) : BitVec 6 := cellRead s.ppu.fb (256 * y + x)

/-- The end of a run (R855): the next opcode byte, peeked at an address that is not a port's, is $00. -/
def endOfRun (s : State) : Bool :=
  match target s.cpu.pc with
  | .port _ => false
  | _ => decide (peek s s.cpu.pc = 0)

/-- Whole frames completed since power-on, when no fault has stopped the devices (R853, R854). -/
def framesDone (s : State) : Nat := 3 * s.cycles / (341 * 262)

end Sys2Proof.Machine
end

