-- ==== Sys2Proof/Safety.lean ====
section
/-! DEFINITION. What counts as a safe state, the invariants every step keeps, and the terms the claims are stated in. -/

namespace Sys2Proof.Machine

/-! ## Safe states and invariants -/

/-- No fault has been recorded: the state has a successor (R505). -/
def State.safe (s : State) : Prop := s.fault = none

/-- Every memory is in its canonical form. -/
def State.canonical (s : State) : Prop :=
  Memory.wf s.ram = true ∧ Memory.wf s.chrRam = true ∧ Memory.wf s.ppu.nt = true ∧ Memory.wf s.ppu.pal = true ∧
  Memory.wf s.ppu.oam = true ∧ cellsWf s.ppu.fb = true

/-- The PPU's position is a dot of the frame (R51, R641). -/
def State.onFrame (s : State) : Prop := s.ppu.scanline < 262 ∧ s.ppu.dot < 341

/-- The line's sprites are at most eight indices of OAM entries (R650). -/
def State.lineOk (s : State) : Prop := s.ppu.lineSprites.length ≤ 8 ∧ ∀ i ∈ s.ppu.lineSprites, i < 64

/-- The counters the spec bounds: at most four bits wait in the MMC1's shift register (R48), the joypad's position is
0..8 (R58). -/
def State.countersOk (s : State) : Prop :=
  s.pad.pos ≤ 8 ∧
  match s.mapper with
  | .mmc1 r => r.count ≤ 4
  | _ => True

/-- The invariant of the model: canonical memories, the ranges of 10_state.md, and a noise shift register that is not 0
(R733). -/
def State.inv (s : State) : Prop :=
  s.canonical ∧ s.onFrame ∧ s.lineOk ∧ s.countersOk ∧ s.apu.noise.lfsr ≠ 0

/-- The index of the PPU's position in the frame, 0..89341. -/
def State.position (s : State) : Nat := 341 * s.ppu.scanline + s.ppu.dot

/-- The devices mirror the CPU (R853): while no fault has stopped them, as many ticks as CPU cycles have been performed,
and three times as many dots. -/
def State.inStep (s : State) : Prop :=
  s.onFrame ∧ (s.fault = none → s.apu.cycles = s.cycles ∧ s.position = 3 * s.cycles % 89342)

/-! ## Addresses -/

/-- The CPU address reaches a port of the I/O dispatcher (R104). -/
def isPort (a : Word) : Bool :=
  match target a with
  | .port _ => true
  | _ => false

/-- The CPU address reaches cartridge ROM, whose writes go to the mapper (R106). -/
def isRom (a : Word) : Bool :=
  match target a with
  | .rom _ => true
  | _ => false

/-- The PRG byte of 16 KB bank `b` at offset `off` (R162). -/
def prgByte (c : Cartridge) (b off : Nat) : Byte := cellRead c.prg (b % c.nPrg * 0x4000 + off)

/-! ## Fetch -/

/-- The bytes a fetch of `n` bytes from `a` reads, in order, and the state after the reads (R250, R252). -/
def fetchBytes : Nat → Word → State → List Byte × State
  | 0, _, s => ([], s)
  | n + 1, a, s => ((memRead a s).1 :: (fetchBytes n (a + 1) (memRead a s).2).1, (fetchBytes n (a + 1) (memRead a s).2).2)

/-- What a loop step does with the outcome of the instruction it fetched (R850): `s` is the state after the fetch. -/
def completeStep (s : State) : Host.Outcome State Fault Refusal → Host.Outcome State Fault Refusal
  | .next t => .next (afterInstr s t)
  | .fault f => .fault f
  | .refused r => .refused r

/-! ## The opcode listing -/

/-- The 13 mode tags of R202. -/
inductive Mode where
  | imp | acc | imm | zp | zpx | zpy | abs | absx | absy | indx | indy | ind | rel
  deriving DecidableEq, Repr

/-- The mode tag of an addressing mode with its operand. -/
def modeOf : Operand → Mode
  | .imp => .imp
  | .acc => .acc
  | .imm _ => .imm
  | .zp _ => .zp
  | .zpx _ => .zpx
  | .zpy _ => .zpy
  | .abs _ => .abs
  | .absx _ => .absx
  | .absy _ => .absy
  | .indx _ => .indx
  | .indy _ => .indy
  | .ind _ => .ind
  | .rel _ => .rel

/-- A row of the listing R204: opcode, mnemonic, mode, bytes, base cycles, +1 on page cross. -/
abbrev ListingRow := Nat × Mnemonic × Mode × Nat × Nat × Bool

/-- The row of an instruction. -/
def listingRow (i : Instr) : ListingRow :=
  (i.opcode.toNat, i.entry.mnemonic, modeOf i.entry.operand, i.entry.bytes, i.entry.cycles, i.entry.penalty)

/-! ## The shape of an instruction's result -/

/-- N and Z from a byte read as a number: N when it is 128 or more, Z when it is 0 (R11). -/
def Status.nz (p : Status) (v : Byte) : Status := { p with n := decide (128 ≤ v.toNat), z := decide (v.toNat = 0) }

/-- A register file that has moved past the instruction at its `PC` (R250). -/
def Cpu.past (c : Cpu) (bytes : Nat) : Cpu := { c with lastPC := c.pc, pc := c.pc + BitVec.ofNat 16 bytes }

/-- The cycles of an instruction that is no branch (R267), without a stall. -/
def baseCycles (i : Instr) (s : State) : Nat :=
  i.entry.cycles + if i.entry.penalty = true ∧ (resolveOf i s).crossed = true then 1 else 0

/-- The state after `i`, whose operand reads have led to `r`, has left the register file `c`: `PC` and `LastPC` as R250
says, the cycles counted. -/
def finish (i : Instr) (s r : State) (c : Cpu) : State :=
  { r with cpu := { c with lastPC := s.cpu.pc, pc := s.cpu.pc + BitVec.ofNat 16 i.entry.bytes },
           cycles := r.cycles + baseCycles i s }

/-- A memory write leaves the register file alone, so this is the state after `i` has also stored `v` at `a`. -/
def finishStore (i : Instr) (s r : State) (a : Word) (v : Byte) (c : Cpu) : State := finish i s (memWrite a v r) c

/-- The two states differ at most in what a read of a port may change (R109): the PPU's VBlank flag, write toggle, read
latch and address, the frame IRQ flag, the joypad's position; and in the register file and the cycle count. -/
def onlyReads (s t : State) : Prop :=
  t = { s with cpu := t.cpu, cycles := t.cycles,
               ppu := { s.ppu with vblank := t.ppu.vblank, w := t.ppu.w, buffer := t.ppu.buffer, v := t.ppu.v },
               apu := { s.apu with frameIrq := t.apu.frameIrq }, pad := { s.pad with pos := t.pad.pos } }

/-- Every byte of CPU memory (every address that is no port's) reads in `t` as in `s`. -/
def sameMemory (s t : State) : Prop := ∀ a : Word, isPort a = false → peek t a = peek s a

/-- Every byte of CPU memory outside the one stored at `ea` reads in `t` as in `s`. -/
def sameMemoryBut (ea : Word) (s t : State) : Prop :=
  ∀ a : Word, isPort a = false → target a ≠ target ea → peek t a = peek s a

/-- The work RAM and the cartridge-region RAM read in `t` as in `s`, and the PRG bytes are the same. -/
def sameRamAndPrg (s t : State) : Prop := t.ram = s.ram ∧ t.cart = s.cart

/-- The same registers but for `PC` and `LastPC`. -/
def sameRegisters (s t : State) : Prop :=
  t.cpu.a = s.cpu.a ∧ t.cpu.x = s.cpu.x ∧ t.cpu.y = s.cpu.y ∧ t.cpu.s = s.cpu.s ∧ t.cpu.p = s.cpu.p

/-! ## The stack -/

/-- The stack check for `k` pushes passes (R124): under `STACK_POLICY = fault`, `S` is at least `k`. -/
def pushOk (s : State) (k : Nat) : Prop := s.params.stackPolicy = .wrap ∨ k ≤ s.cpu.s.toNat

/-- The stack check for `k` pulls passes (R124): under `STACK_POLICY = fault`, `S` is at most $FF - `k`. -/
def pullOk (s : State) (k : Nat) : Prop := s.params.stackPolicy = .wrap ∨ s.cpu.s.toNat + k ≤ 0xFF

/-- The address of the `k`-th byte a sequence of pushes writes, counted from 0: page $01, downwards, modulo 256. -/
def pushSlot (s : State) (k : Nat) : Nat := 0x100 + (s.cpu.s.toNat + 256 - k) % 256

/-- The address of the `k`-th byte a sequence of pulls reads, counted from 1: page $01, upwards, modulo 256. -/
def pullSlot (s : State) (k : Nat) : Nat := 0x100 + (s.cpu.s.toNat + k) % 256

/-- The memory `m` after the listed bytes have been written at the slots from `k` on, in push order (R120). -/
def pushedOn (s : State) : Nat → List Byte → Memory → Memory
  | _, [], m => m
  | k, b :: bs, m => pushedOn s (k + 1) bs (cellWrite m (pushSlot s k) b)

/-- The RAM after the listed bytes have been pushed, the first of them first, at slot `k` (R120). -/
def pushedRam (s : State) (k : Nat) (bs : List Byte) : Memory := pushedOn s k bs s.ram

/-- The `k`-th byte a sequence of pulls returns (R121). -/
def pulled (s : State) (k : Nat) : Byte := cellRead s.ram (pullSlot s k)

/-- The RAM after `k` pulls: as before, or with the vacated bytes cleared under `STACK_CLEAR_ON_POP` (R125). -/
def pulledRam (s : State) : Nat → Memory
  | 0 => s.ram
  | k + 1 => if s.params.stackClearOnPop = true then cellWrite (pulledRam s k) (pullSlot s (k + 1)) 0 else pulledRam s k

/-- The value of the status byte with bit 4 equal to `b` (R36): bit 5 is 1. -/
def statusValue (p : Status) (b : Bool) : Nat :=
  128 * bitNat p.n + 64 * bitNat p.v + 32 + 16 * bitNat b + 8 * bitNat p.d + 4 * bitNat p.i + 2 * bitNat p.z + bitNat p.c

/-- The status a pulled byte gives (R333): each flag from its bit of the byte's value, bit 5 discarded. -/
def statusFrom (v : Nat) : Status :=
  { n := decide (v / 128 % 2 = 1), v := decide (v / 64 % 2 = 1), b := decide (v / 16 % 2 = 1),
    d := decide (v / 8 % 2 = 1), i := decide (v / 4 % 2 = 1), z := decide (v / 2 % 2 = 1), c := decide (v % 2 = 1) }

/-- What a failed stack check leaves (R503): `PC` and `LastPC` advanced, the fault recorded, nothing else changed. -/
def stackFaulted (i : Instr) (s : State) (f : Fault) : State :=
  { s with cpu := s.cpu.past i.entry.bytes, fault := some (s.fault.getD f) }

/-! ## Branches -/

/-- The target of a branch at `PC` with displacement `o` (R265): from the address after the branch, signed, modulo 2^16. -/
def branchTarget (s : State) (o : Byte) : Word := BitVec.ofInt 16 ((s.cpu.pc.toNat : Int) + 2 + o.toInt)

/-- The state after a branch at `PC` with displacement `o`, taken or not (R403, R267). -/
def afterBranch (s : State) (o : Byte) (taken : Bool) : State :=
  { s with
    cpu := { s.cpu with lastPC := s.cpu.pc, pc := if taken = true then branchTarget s o else s.cpu.pc + 2 }
    cycles := s.cycles + 2 + (if taken = true then 1 else 0) +
      (if taken = true ∧ s.params.branchPagePenalty = true ∧
          (s.cpu.pc + 2).toNat / 256 ≠ (branchTarget s o).toNat / 256 then 1 else 0) }

/-! ## The classes of instructions (R30 to R45) -/

/-- The instruction stores no byte and touches no stack: everything but stores, the memory forms of the
read-modify-writes, pushes and pulls. -/
def storesNothing (i : Instr) : Bool :=
  if i.entry.mnemonic ∈ ([.sta, .stx, .sty, .inc, .dec, .pha, .php, .pla, .plp, .jsr, .rts, .brk, .rti] : List Mnemonic) then false
  else if i.entry.mnemonic ∈ ([.asl, .lsr, .rol, .ror] : List Mnemonic) then decide (i.entry.operand = .acc) else true

/-- The instruction stores one byte at its effective address: STA, STX, STY, INC, DEC and the memory forms of the shifts
and rotates. -/
def storesOne (i : Instr) : Bool :=
  if i.entry.mnemonic ∈ ([.sta, .stx, .sty, .inc, .dec] : List Mnemonic) then true
  else if i.entry.mnemonic ∈ ([.asl, .lsr, .rol, .ror] : List Mnemonic) then decide (i.entry.operand ≠ .acc) else false

/-- `A` is a destination (R31). -/
def writesA (i : Instr) : Bool :=
  if i.entry.mnemonic ∈ ([.lda, .pla, .txa, .tya, .adc, .sbc, .and, .ora, .eor] : List Mnemonic) then true
  else if i.entry.mnemonic ∈ ([.asl, .lsr, .rol, .ror] : List Mnemonic) then decide (i.entry.operand = .acc) else false

/-- `X` is a destination (R32). -/
def writesX (i : Instr) : Bool := decide (i.entry.mnemonic ∈ ([.ldx, .tax, .tsx, .inx, .dex] : List Mnemonic))

/-- `Y` is a destination (R32). -/
def writesY (i : Instr) : Bool := decide (i.entry.mnemonic ∈ ([.ldy, .tay, .iny, .dey] : List Mnemonic))

/-- `S` is written: pushes, pulls and TXS (R33). -/
def writesS (i : Instr) : Bool :=
  decide (i.entry.mnemonic ∈ ([.txs, .pha, .php, .pla, .plp, .jsr, .rts, .brk, .rti] : List Mnemonic))

/-- The mnemonics of R45 whose N and Z columns are written. -/
def nzMnemonics : List Mnemonic :=
  [.adc, .sbc, .and, .ora, .eor, .lda, .ldx, .ldy, .tax, .tay, .txa, .tya, .tsx, .pla, .inc, .dec,
   .inx, .iny, .dex, .dey, .asl, .lsr, .rol, .ror, .cmp, .cpx, .cpy, .bit, .plp, .rti]

/-- The rows of R45 whose N and Z columns are written. -/
def writesNZ (m : Mnemonic) : Bool := decide (m ∈ nzMnemonics)

/-- The rows of R45 whose V column is written. -/
def writesV (m : Mnemonic) : Bool := decide (m ∈ ([.adc, .sbc, .bit, .clv, .plp, .rti] : List Mnemonic))

/-- The rows of R45 whose D column is written. -/
def writesD (m : Mnemonic) : Bool := decide (m ∈ ([.cld, .sed, .plp, .rti] : List Mnemonic))

/-- The rows of R45 whose I column is written. -/
def writesI (m : Mnemonic) : Bool := decide (m ∈ ([.cli, .sei, .plp, .rti, .brk] : List Mnemonic))

/-- The rows of R45 whose C column is written. -/
def writesC (m : Mnemonic) : Bool :=
  decide (m ∈ ([.adc, .sbc, .asl, .lsr, .rol, .ror, .cmp, .cpx, .cpy, .clc, .sec, .plp, .rti] : List Mnemonic))

/-! ## Devices -/

/-- The state after `n` dots (R640). -/
def afterDots : Nat → State → State
  | 0, s => s
  | n + 1, s => afterDots n (ppuDot s)

/-- The APU after `n` ticks (R701). -/
def afterTicks (params : Params) : Nat → Apu → Apu
  | 0, a => a
  | n + 1, a => afterTicks params n (apuTickOf params a)

/-- The bytes `n` reads of the address `a` give, in order (used of the ports). -/
def readMany (a : Word) : Nat → State → List Byte
  | 0, _ => []
  | n + 1, s => (memRead a s).1 :: readMany a n (memRead a s).2

/-- The writes of the listed (address, value) pairs, in order. -/
def writeMany : List (Word × Byte) → State → State
  | [], s => s
  | (a, v) :: rest, s => writeMany rest (memWrite a v s)

end Sys2Proof.Machine
end

