-- ==== Sys2Proof/Certificates/Slice0/Obligations.lean ====
section
/-! DEFINITION. The statements for the provers, from the numbered rules of spec/, file by file.

Nearly every rule of spec/ carries the spec's own mark for what it adds to its source: [from general knowledge, not in
source], [decision: D<n>] or [derived]. Each docstring names the rules its statement rests on and, after "The spec's own
marks", which of them carry one; such a rule is the spec's choice, not its source's. -/

open Sys2Proof Sys2Proof.Machine

/-! ## Encoding (30_encoding.md) -/

/-- R200, R203, R204, R207, R208. Decoding the encoding of an instruction, whatever bytes follow it, gives the instruction
back with every operand bit, and leaves those bytes; and bytes that decode to an instruction are its encoding.
The spec's own marks: general knowledge R203, R204; derived R207; decision R203 (D2), R204 (D2). -/
def Obligations.DecodeEncodeAgree : Prop :=
  (∀ (i : Instr) (rest : List Byte), decode (encode i ++ rest) = .ok (i, rest)) ∧
  ∀ (bs : List Byte) (i : Instr) (rest : List Byte), decode bs = .ok (i, rest) → encode i ++ rest = bs

/-- R210. The bytes with no instruction are the 105 listed ones; the decoder rejects each by name, whatever follows.
The spec's own marks: general knowledge R210; decision R210 (D2). -/
def Obligations.UnwiredBytes : Prop :=
  (∀ op : Byte, opcodeMap op = .unwired ↔ op.toNat ∈
    ([0x02, 0x03, 0x04, 0x07, 0x0B, 0x0C, 0x0F, 0x12, 0x13, 0x14, 0x17, 0x1A, 0x1B, 0x1C, 0x1F] : List Nat) ∨ op.toNat ∈
    ([0x22, 0x23, 0x27, 0x2B, 0x2F, 0x32, 0x33, 0x34, 0x37, 0x3A, 0x3B, 0x3C, 0x3F] : List Nat) ∨ op.toNat ∈
    ([0x42, 0x43, 0x44, 0x47, 0x4B, 0x4F, 0x52, 0x53, 0x54, 0x57, 0x5A, 0x5B, 0x5C, 0x5F] : List Nat) ∨ op.toNat ∈
    ([0x62, 0x63, 0x64, 0x67, 0x6B, 0x6F, 0x72, 0x73, 0x74, 0x77, 0x7A, 0x7B, 0x7C, 0x7F] : List Nat) ∨ op.toNat ∈
    ([0x80, 0x82, 0x83, 0x87, 0x89, 0x8B, 0x8F, 0x92, 0x93, 0x97, 0x9B, 0x9C, 0x9E, 0x9F] : List Nat) ∨ op.toNat ∈
    ([0xA3, 0xA7, 0xAB, 0xAF, 0xB2, 0xB3, 0xB7, 0xBB, 0xBF] : List Nat) ∨ op.toNat ∈
    ([0xC2, 0xC3, 0xC7, 0xCB, 0xCF, 0xD2, 0xD3, 0xD4, 0xD7, 0xDA, 0xDB, 0xDC, 0xDF] : List Nat) ∨ op.toNat ∈
    ([0xE2, 0xE3, 0xE7, 0xEB, 0xEF, 0xF2, 0xF3, 0xF4, 0xF7, 0xFA, 0xFB, 0xFC, 0xFF] : List Nat)) ∧
  ∀ (op : Byte) (rest : List Byte), opcodeMap op = .unwired → decode (op :: rest) = .error (.unwiredOpcode op)

/-- R200, R204. A word of each format, written out from the listing, decodes to the instruction it stands for. R204, R205,
R268: the row of every instruction in the listing, written out: opcode, mnemonic, mode, bytes, base cycles, +1 on page
cross; these are the columns the result statements' `finish` and `baseCycles` read. The bytes column is the length of the
encoding.
The spec's own marks: general knowledge R204; derived R268; decision R204 (D2). -/
def Obligations.WordsDecode : Prop :=
  decode [0xA9, 0x05] = .ok (.ldaImm 0x05, []) ∧ decode [0x8D, 0x00, 0x02] = .ok (.staAbs 0x0200, []) ∧
  decode [0x6C, 0xFF, 0x10] = .ok (.jmpInd 0x10FF, []) ∧ decode [0xD0, 0xF9] = .ok (.bne 0xF9, []) ∧
  decode [0xBE, 0x00, 0x03] = .ok (.ldxAbsy 0x0300, []) ∧ decode [0x91, 0x20] = .ok (.staIndy 0x20, []) ∧
  decode [0x0A] = .ok (.aslAcc, []) ∧ decode [0x00] = .ok (.brk, []) ∧ decode [0x48] = .ok (.pha, []) ∧
  decode [0x02] = .error (.unwiredOpcode 0x02) ∧
  (∀ i : Instr, i.entry.bytes = (encode i).length) ∧
  ∀ i : Instr, listingRow i =
    (match i with
      | .brk => (0x00, .brk, .imp, 1, 7, false)                | .oraIndx _ => (0x01, .ora, .indx, 2, 6, false)
      | .oraZp _ => (0x05, .ora, .zp, 2, 3, false)             | .aslZp _ => (0x06, .asl, .zp, 2, 5, false)
      | .php => (0x08, .php, .imp, 1, 3, false)                | .oraImm _ => (0x09, .ora, .imm, 2, 2, false)
      | .aslAcc => (0x0A, .asl, .acc, 1, 2, false)             | .oraAbs _ => (0x0D, .ora, .abs, 3, 4, false)
      | .aslAbs _ => (0x0E, .asl, .abs, 3, 6, false)           | .bpl _ => (0x10, .bpl, .rel, 2, 2, false)
      | .oraIndy _ => (0x11, .ora, .indy, 2, 5, true)          | .oraZpx _ => (0x15, .ora, .zpx, 2, 4, false)
      | .aslZpx _ => (0x16, .asl, .zpx, 2, 6, false)           | .clc => (0x18, .clc, .imp, 1, 2, false)
      | .oraAbsy _ => (0x19, .ora, .absy, 3, 4, true)          | .oraAbsx _ => (0x1D, .ora, .absx, 3, 4, true)
      | .aslAbsx _ => (0x1E, .asl, .absx, 3, 7, false)         | .jsr _ => (0x20, .jsr, .abs, 3, 6, false)
      | .andIndx _ => (0x21, .and, .indx, 2, 6, false)         | .bitZp _ => (0x24, .bit, .zp, 2, 3, false)
      | .andZp _ => (0x25, .and, .zp, 2, 3, false)             | .rolZp _ => (0x26, .rol, .zp, 2, 5, false)
      | .plp => (0x28, .plp, .imp, 1, 4, false)                | .andImm _ => (0x29, .and, .imm, 2, 2, false)
      | .rolAcc => (0x2A, .rol, .acc, 1, 2, false)             | .bitAbs _ => (0x2C, .bit, .abs, 3, 4, false)
      | .andAbs _ => (0x2D, .and, .abs, 3, 4, false)           | .rolAbs _ => (0x2E, .rol, .abs, 3, 6, false)
      | .bmi _ => (0x30, .bmi, .rel, 2, 2, false)              | .andIndy _ => (0x31, .and, .indy, 2, 5, true)
      | .andZpx _ => (0x35, .and, .zpx, 2, 4, false)           | .rolZpx _ => (0x36, .rol, .zpx, 2, 6, false)
      | .sec => (0x38, .sec, .imp, 1, 2, false)                | .andAbsy _ => (0x39, .and, .absy, 3, 4, true)
      | .andAbsx _ => (0x3D, .and, .absx, 3, 4, true)          | .rolAbsx _ => (0x3E, .rol, .absx, 3, 7, false)
      | .rti => (0x40, .rti, .imp, 1, 6, false)                | .eorIndx _ => (0x41, .eor, .indx, 2, 6, false)
      | .eorZp _ => (0x45, .eor, .zp, 2, 3, false)             | .lsrZp _ => (0x46, .lsr, .zp, 2, 5, false)
      | .pha => (0x48, .pha, .imp, 1, 3, false)                | .eorImm _ => (0x49, .eor, .imm, 2, 2, false)
      | .lsrAcc => (0x4A, .lsr, .acc, 1, 2, false)             | .jmpAbs _ => (0x4C, .jmp, .abs, 3, 3, false)
      | .eorAbs _ => (0x4D, .eor, .abs, 3, 4, false)           | .lsrAbs _ => (0x4E, .lsr, .abs, 3, 6, false)
      | .bvc _ => (0x50, .bvc, .rel, 2, 2, false)              | .eorIndy _ => (0x51, .eor, .indy, 2, 5, true)
      | .eorZpx _ => (0x55, .eor, .zpx, 2, 4, false)           | .lsrZpx _ => (0x56, .lsr, .zpx, 2, 6, false)
      | .cli => (0x58, .cli, .imp, 1, 2, false)                | .eorAbsy _ => (0x59, .eor, .absy, 3, 4, true)
      | .eorAbsx _ => (0x5D, .eor, .absx, 3, 4, true)          | .lsrAbsx _ => (0x5E, .lsr, .absx, 3, 7, false)
      | .rts => (0x60, .rts, .imp, 1, 6, false)                | .adcIndx _ => (0x61, .adc, .indx, 2, 6, false)
      | .adcZp _ => (0x65, .adc, .zp, 2, 3, false)             | .rorZp _ => (0x66, .ror, .zp, 2, 5, false)
      | .pla => (0x68, .pla, .imp, 1, 4, false)                | .adcImm _ => (0x69, .adc, .imm, 2, 2, false)
      | .rorAcc => (0x6A, .ror, .acc, 1, 2, false)             | .jmpInd _ => (0x6C, .jmp, .ind, 3, 5, false)
      | .adcAbs _ => (0x6D, .adc, .abs, 3, 4, false)           | .rorAbs _ => (0x6E, .ror, .abs, 3, 6, false)
      | .bvs _ => (0x70, .bvs, .rel, 2, 2, false)              | .adcIndy _ => (0x71, .adc, .indy, 2, 5, true)
      | .adcZpx _ => (0x75, .adc, .zpx, 2, 4, false)           | .rorZpx _ => (0x76, .ror, .zpx, 2, 6, false)
      | .sei => (0x78, .sei, .imp, 1, 2, false)                | .adcAbsy _ => (0x79, .adc, .absy, 3, 4, true)
      | .adcAbsx _ => (0x7D, .adc, .absx, 3, 4, true)          | .rorAbsx _ => (0x7E, .ror, .absx, 3, 7, false)
      | .staIndx _ => (0x81, .sta, .indx, 2, 6, false)         | .styZp _ => (0x84, .sty, .zp, 2, 3, false)
      | .staZp _ => (0x85, .sta, .zp, 2, 3, false)             | .stxZp _ => (0x86, .stx, .zp, 2, 3, false)
      | .dey => (0x88, .dey, .imp, 1, 2, false)                | .txa => (0x8A, .txa, .imp, 1, 2, false)
      | .styAbs _ => (0x8C, .sty, .abs, 3, 4, false)           | .staAbs _ => (0x8D, .sta, .abs, 3, 4, false)
      | .stxAbs _ => (0x8E, .stx, .abs, 3, 4, false)           | .bcc _ => (0x90, .bcc, .rel, 2, 2, false)
      | .staIndy _ => (0x91, .sta, .indy, 2, 6, false)         | .styZpx _ => (0x94, .sty, .zpx, 2, 4, false)
      | .staZpx _ => (0x95, .sta, .zpx, 2, 4, false)           | .stxZpy _ => (0x96, .stx, .zpy, 2, 4, false)
      | .tya => (0x98, .tya, .imp, 1, 2, false)                | .staAbsy _ => (0x99, .sta, .absy, 3, 5, false)
      | .txs => (0x9A, .txs, .imp, 1, 2, false)                | .staAbsx _ => (0x9D, .sta, .absx, 3, 5, false)
      | .ldyImm _ => (0xA0, .ldy, .imm, 2, 2, false)           | .ldaIndx _ => (0xA1, .lda, .indx, 2, 6, false)
      | .ldxImm _ => (0xA2, .ldx, .imm, 2, 2, false)           | .ldyZp _ => (0xA4, .ldy, .zp, 2, 3, false)
      | .ldaZp _ => (0xA5, .lda, .zp, 2, 3, false)             | .ldxZp _ => (0xA6, .ldx, .zp, 2, 3, false)
      | .tay => (0xA8, .tay, .imp, 1, 2, false)                | .ldaImm _ => (0xA9, .lda, .imm, 2, 2, false)
      | .tax => (0xAA, .tax, .imp, 1, 2, false)                | .ldyAbs _ => (0xAC, .ldy, .abs, 3, 4, false)
      | .ldaAbs _ => (0xAD, .lda, .abs, 3, 4, false)           | .ldxAbs _ => (0xAE, .ldx, .abs, 3, 4, false)
      | .bcs _ => (0xB0, .bcs, .rel, 2, 2, false)              | .ldaIndy _ => (0xB1, .lda, .indy, 2, 5, true)
      | .ldyZpx _ => (0xB4, .ldy, .zpx, 2, 4, false)           | .ldaZpx _ => (0xB5, .lda, .zpx, 2, 4, false)
      | .ldxZpy _ => (0xB6, .ldx, .zpy, 2, 4, false)           | .clv => (0xB8, .clv, .imp, 1, 2, false)
      | .ldaAbsy _ => (0xB9, .lda, .absy, 3, 4, true)          | .tsx => (0xBA, .tsx, .imp, 1, 2, false)
      | .ldyAbsx _ => (0xBC, .ldy, .absx, 3, 4, true)          | .ldaAbsx _ => (0xBD, .lda, .absx, 3, 4, true)
      | .ldxAbsy _ => (0xBE, .ldx, .absy, 3, 4, true)          | .cpyImm _ => (0xC0, .cpy, .imm, 2, 2, false)
      | .cmpIndx _ => (0xC1, .cmp, .indx, 2, 6, false)         | .cpyZp _ => (0xC4, .cpy, .zp, 2, 3, false)
      | .cmpZp _ => (0xC5, .cmp, .zp, 2, 3, false)             | .decZp _ => (0xC6, .dec, .zp, 2, 5, false)
      | .iny => (0xC8, .iny, .imp, 1, 2, false)                | .cmpImm _ => (0xC9, .cmp, .imm, 2, 2, false)
      | .dex => (0xCA, .dex, .imp, 1, 2, false)                | .cpyAbs _ => (0xCC, .cpy, .abs, 3, 4, false)
      | .cmpAbs _ => (0xCD, .cmp, .abs, 3, 4, false)           | .decAbs _ => (0xCE, .dec, .abs, 3, 6, false)
      | .bne _ => (0xD0, .bne, .rel, 2, 2, false)              | .cmpIndy _ => (0xD1, .cmp, .indy, 2, 5, true)
      | .cmpZpx _ => (0xD5, .cmp, .zpx, 2, 4, false)           | .decZpx _ => (0xD6, .dec, .zpx, 2, 6, false)
      | .cld => (0xD8, .cld, .imp, 1, 2, false)                | .cmpAbsy _ => (0xD9, .cmp, .absy, 3, 4, true)
      | .cmpAbsx _ => (0xDD, .cmp, .absx, 3, 4, true)          | .decAbsx _ => (0xDE, .dec, .absx, 3, 7, false)
      | .cpxImm _ => (0xE0, .cpx, .imm, 2, 2, false)           | .sbcIndx _ => (0xE1, .sbc, .indx, 2, 6, false)
      | .cpxZp _ => (0xE4, .cpx, .zp, 2, 3, false)             | .sbcZp _ => (0xE5, .sbc, .zp, 2, 3, false)
      | .incZp _ => (0xE6, .inc, .zp, 2, 5, false)             | .inx => (0xE8, .inx, .imp, 1, 2, false)
      | .sbcImm _ => (0xE9, .sbc, .imm, 2, 2, false)           | .nop => (0xEA, .nop, .imp, 1, 2, false)
      | .cpxAbs _ => (0xEC, .cpx, .abs, 3, 4, false)           | .sbcAbs _ => (0xED, .sbc, .abs, 3, 4, false)
      | .incAbs _ => (0xEE, .inc, .abs, 3, 6, false)           | .beq _ => (0xF0, .beq, .rel, 2, 2, false)
      | .sbcIndy _ => (0xF1, .sbc, .indy, 2, 5, true)          | .sbcZpx _ => (0xF5, .sbc, .zpx, 2, 4, false)
      | .incZpx _ => (0xF6, .inc, .zpx, 2, 6, false)           | .sed => (0xF8, .sed, .imp, 1, 2, false)
      | .sbcAbsy _ => (0xF9, .sbc, .absy, 3, 4, true)          | .sbcAbsx _ => (0xFD, .sbc, .absx, 3, 4, true)
      | .incAbsx _ => (0xFE, .inc, .absx, 3, 7, false))

/-! ## The loop step (40_cpu_step_addressing.md section 1, 60_exceptions.md, 64_execution_loop.md) -/

/-- R250, R111. When the bytes the fetch reads decode to a wired instruction, the step runs that instruction at the state
after the fetch's reads, and then the rest of R850. When none of the bytes is a port's, that state is the one before.
The spec's own marks: decision R111 (D54), R850 (D27/D49). -/
def Obligations.StepRunsDecoded : Prop :=
  ∀ (s : State) (i : Instr), s.fault = none → i.wellFormed s.params = true →
    decode (fetchBytes i.entry.bytes s.cpu.pc s).1 = .ok (i, []) →
    step s = completeStep (fetchBytes i.entry.bytes s.cpu.pc s).2 (exec i (fetchBytes i.entry.bytes s.cpu.pc s).2) ∧
    ((∀ k, k < i.entry.bytes → isPort (s.cpu.pc + BitVec.ofNat 16 k) = false) →
      step s = completeStep s (exec i s))

/-- R251. A fetched byte that is not wired ends the step with UnimplementedOpcode, with the byte and the address it was
fetched from; everything else is as the opcode fetch left it.
The spec's own marks: decision R251 (D2). -/
def Obligations.UnwiredOpcodeFaults : Prop :=
  ∀ (s : State), s.fault = none →
    (s.params.wired (peek s s.cpu.pc) = false ∨ opcodeMap (peek s s.cpu.pc) = .unwired) →
    step s = .next { (memRead s.cpu.pc s).2 with
      fault := some (.unimplementedOpcode (peek s s.cpu.pc) s.cpu.pc) }

/-- R505. Once a fault is set the step relation has no successor: the step answers the recorded fault. That a step without a
recorded fault always answers a next state, the one that raises a fault (R500) included, is the model's choice (DEDUCED,
log entry 11).
The spec's own marks: decision R500 (D29), R505 (D29). -/
def Obligations.FaultIsTerminal : Prop :=
  (∀ (s : State) (f : Fault), s.fault = some f → step s = .fault f) ∧
  ∀ s : State, s.fault = none → ∃ t, step s = .next t

/-- R850, R503, R504, R520. After an instruction: a fault ends the step there; otherwise the devices advance by its cycles,
and unless a colour fault stops them a pending NMI is consumed and entered, with its own cycles mirrored.
The spec's own marks: general knowledge R520; decision R503 (D29), R504 (D29), R520 (D27/D4/D6), R850 (D27/D49). -/
def Obligations.StepOrder : Prop :=
  ∀ s t : State,
    (t.fault ≠ none → afterInstr s t = t) ∧
    (t.fault = none → (advanceDevices (t.cycles - s.cycles) t).fault ≠ none →
      afterInstr s t = advanceDevices (t.cycles - s.cycles) t) ∧
    (t.fault = none → ∀ u, advanceDevices (t.cycles - s.cycles) t = u → u.fault = none → u.ppu.nmiPending = false →
      afterInstr s t = u) ∧
    (t.fault = none → ∀ u, advanceDevices (t.cycles - s.cycles) t = u → u.fault = none → u.ppu.nmiPending = true →
      ∀ e, nmiEntry { u with ppu := { u.ppu with nmiPending := false } } = e →
      afterInstr s t = if e.fault = none then advanceDevices (e.cycles - u.cycles) e else e)

/-- R851. The device advance of `n` cycles that no colour fault stops performs `3n` dots and `n` ticks, and touches nothing
but the PPU and the APU.
The spec's own marks: decision R851 (D49). -/
def Obligations.ThreeDotsOneTick : Prop :=
  ∀ (n : Nat) (s : State), (advanceDevices n s).fault = none →
    advanceDevices n s =
      { s with ppu := (afterDots (3 * n) s).ppu, apu := afterTicks s.params n s.apu }

/-- R853. While no fault has stopped the devices, every step keeps them mirrored: as many ticks as CPU cycles, and three
times as many dots, at a position of the frame.
The spec's own marks: derived R853. -/
def Obligations.StepKeepsInStep : Prop :=
  ∀ s t : State, step s = .next t → s.inStep → t.inStep

/-- The model's invariant (canonical memories; 10_state.md R48, R51, R58; R650; R733) is kept by every step from every
state that meets it.
The spec's own marks: general knowledge R48, R733; decision R48 (D52), R51 (D52), R58 (D42), R650 (D36), R733 (D44). -/
def Obligations.StepKeepsInv : Prop :=
  ∀ s t : State, step s = .next t → s.inv → t.inv

/-- The state right after reset meets both invariants and holds no fault (its cartridge and draws are the model's choice, log
entries 1 to 3). -/
def Obligations.ResetMeetsInvariants : Prop :=
  State.reset.inv ∧ State.reset.inStep ∧ State.reset.safe

/-- R47, R58, R60, R860: no step changes the cartridge, the parameters or the button mask the host has applied, which changes
between steps only. R60 calls the cartridge and the parameters configuration and no state; that they are fields of State
which no step changes is the model's choice (DESIGN CHOICE, log entry 12).
The spec's own marks: decision R47 (D21), R58 (D42), R860 (D51). -/
def Obligations.CartridgeIsReadOnly : Prop :=
  ∀ s t : State, step s = .next t → t.cart = s.cart ∧ t.params = s.params ∧ t.pad.buttons = s.pad.buttons

/-! ## Addressing (40_cpu_step_addressing.md section 2) -/

/-- R256 to R259, R265: the effective address and the page-crossing signal of zp, zpx, zpy, abs and rel, as arithmetic on the
operand, the index and `PC`; zero-page indexing wraps within page 0. (absx and absy stand in PointerAddresses.) -/
def Obligations.DirectAddresses : Prop :=
  ∀ (s : State) (o : Byte) (w : Word),
    resolve (.zp o) s = ⟨BitVec.ofNat 16 o.toNat, false, s⟩ ∧
    resolve (.zpx o) s = ⟨BitVec.ofNat 16 ((o.toNat + s.cpu.x.toNat) % 256), false, s⟩ ∧
    resolve (.zpy o) s = ⟨BitVec.ofNat 16 ((o.toNat + s.cpu.y.toNat) % 256), false, s⟩ ∧
    resolve (.abs w) s = ⟨w, false, s⟩ ∧
    (resolve (.rel o) s).ea = BitVec.ofInt 16 ((s.cpu.pc.toNat : Int) + o.toInt) ∧ (resolve (.rel o) s).st = s ∧
    (resolve (.rel o) s).crossed = decide (s.cpu.pc.toNat / 256 ≠ (resolve (.rel o) s).ea.toNat / 256) ∧
    (∀ i : Instr, i.entry.operand = .zpy o → i.entry.mnemonic = .ldx ∨ i.entry.mnemonic = .stx) ∧
    (∀ i : Instr, i.entry.operand = .rel o →
      i.entry.mnemonic ∈ ([.bcc, .bcs, .beq, .bne, .bmi, .bpl, .bvc, .bvs] : List Mnemonic))

/-- R260, R261: the effective address and the page-crossing signal of absx and absy. R262, R263, R264: the pointer modes. The
zero-page pointers wrap within page 0 under `ZP_POINTER_WRAP`; JMP's pointer takes its high byte from the same page.
The spec's own marks: decision R260 (D8), R262 (D23), R263 (D23). -/
def Obligations.PointerAddresses : Prop :=
  ∀ (s : State) (o : Byte) (w : Word),
    let high := fun p : Nat => BitVec.ofNat 16 (if s.params.zpPointerWrap = true then (p + 1) % 256 else p + 1)
    let px := (o.toNat + s.cpu.x.toNat) % 256
    let base := wordOf (peek s (BitVec.ofNat 16 o.toNat)) (peek s (high o.toNat))
    let ea := BitVec.ofNat 16 (base.toNat + s.cpu.y.toNat)
    let lo := memRead w s
    let hi := memRead (BitVec.ofNat 16 (w.toNat / 256 * 256 + (w.toNat + 1) % 256)) lo.2
    resolve (.absx w) s = ⟨BitVec.ofNat 16 (w.toNat + s.cpu.x.toNat),
      decide (w.toNat / 256 ≠ (w.toNat + s.cpu.x.toNat) % 65536 / 256), s⟩ ∧
    resolve (.absy w) s = ⟨BitVec.ofNat 16 (w.toNat + s.cpu.y.toNat),
      decide (w.toNat / 256 ≠ (w.toNat + s.cpu.y.toNat) % 65536 / 256), s⟩ ∧
    resolve (.indx o) s = ⟨wordOf (peek s (BitVec.ofNat 16 px)) (peek s (high px)), false, s⟩ ∧
    resolve (.indy o) s = ⟨ea, decide (base.toNat / 256 ≠ ea.toNat / 256), s⟩ ∧
    resolve (.ind w) s = ⟨wordOf lo.1 hi.1, false, hi.2⟩ ∧
    ∀ i : Instr, i.entry.operand = .ind w → i.entry.mnemonic = .jmp

/-- R266, R255: what an instruction's operand is: the immediate byte, `A`, or one read of the effective address; a read of
an address that is no port's leaves the state the step has prepared (R250).
The spec's own marks: decision R266 (D11). -/
def Obligations.OperandRead : Prop :=
  ∀ (i : Instr) (s : State),
    (∀ o, i.entry.operand = .imm o → operandOf i s = (o, startOf i s)) ∧
    (i.entry.operand = .acc → operandOf i s = (s.cpu.a, startOf i s)) ∧
    ((∀ o, i.entry.operand ≠ .imm o) → i.entry.operand ≠ .acc →
      operandOf i s = memRead (resolveOf i s).ea (resolveOf i s).st) ∧
    ((∀ o, i.entry.operand ≠ .imm o) → i.entry.operand ≠ .acc → (∀ w, i.entry.operand ≠ .ind w) →
      isPort (resolveOf i s).ea = false → operandOf i s = (peek s (resolveOf i s).ea, startOf i s)) ∧
    startOf i s = { s with cpu := s.cpu.past i.entry.bytes }

/-! ## Loads, stores, transfers (41_load_store_transfer.md) -/

/-- R300, R301, R302: LDA, LDX, LDY in every mode complete from every state: the register takes the operand, N and Z follow
it, nothing else of the register file changes but `PC` and `LastPC`.
The spec's own marks: general knowledge R300 to R302. -/
def Obligations.LoadResults : Prop :=
  ∀ (i : Instr) (s : State),
    (i.opcode ∈ ([0xA9, 0xA5, 0xB5, 0xAD, 0xBD, 0xB9, 0xA1, 0xB1] : List Byte) →
      exec i s = .next (finish i s (operandOf i s).2
        { s.cpu with a := (operandOf i s).1, p := s.cpu.p.nz (operandOf i s).1 })) ∧
    (i.opcode ∈ ([0xA2, 0xA6, 0xB6, 0xAE, 0xBE] : List Byte) →
      exec i s = .next (finish i s (operandOf i s).2
        { s.cpu with x := (operandOf i s).1, p := s.cpu.p.nz (operandOf i s).1 })) ∧
    (i.opcode ∈ ([0xA0, 0xA4, 0xB4, 0xAC, 0xBC] : List Byte) →
      exec i s = .next (finish i s (operandOf i s).2
        { s.cpu with y := (operandOf i s).1, p := s.cpu.p.nz (operandOf i s).1 }))

/-- R303, R304, R305: STA, STX, STY in every mode complete from every state with one write of the register at the effective
address and no read of it; no register or flag changes but `PC` and `LastPC`. A store to $4014 runs OAM DMA.
The spec's own marks: general knowledge R303 to R305. -/
def Obligations.StoreResults : Prop :=
  ∀ (i : Instr) (s : State),
    (i.opcode ∈ ([0x85, 0x95, 0x8D, 0x9D, 0x99, 0x81, 0x91] : List Byte) →
      exec i s = .next (finishStore i s (startOf i s) (resolveOf i s).ea s.cpu.a s.cpu)) ∧
    (i.opcode ∈ ([0x86, 0x96, 0x8E] : List Byte) →
      exec i s = .next (finishStore i s (startOf i s) (resolveOf i s).ea s.cpu.x s.cpu)) ∧
    (i.opcode ∈ ([0x84, 0x94, 0x8C] : List Byte) →
      exec i s = .next (finishStore i s (startOf i s) (resolveOf i s).ea s.cpu.y s.cpu))

/-! ## Arithmetic and logic (43_arith_logic.md, 44_shift_rotate.md) -/

/-- R306 to R311, R351 to R354: the register transfers and INX, INY, DEX, DEY complete from every state: the destination
takes the source, or steps by 1 modulo 256; N and Z follow it, but TXS writes no flag.
The spec's own marks: general knowledge R306 to R311, R351 to R354. -/
def Obligations.RegisterInstructionResults : Prop :=
  ∀ s : State,
    let done := fun c : Cpu => ({ s with cycles := s.cycles + 2, cpu := c } : State)
    let c := s.cpu.past 1
    let inc := fun r : Byte => BitVec.ofNat 8 (r.toNat + 1)
    let dec := fun r : Byte => BitVec.ofNat 8 (r.toNat + 255)
    exec .tax s = .next (done { c with x := s.cpu.a, p := s.cpu.p.nz s.cpu.a }) ∧
    exec .tay s = .next (done { c with y := s.cpu.a, p := s.cpu.p.nz s.cpu.a }) ∧
    exec .txa s = .next (done { c with a := s.cpu.x, p := s.cpu.p.nz s.cpu.x }) ∧
    exec .tya s = .next (done { c with a := s.cpu.y, p := s.cpu.p.nz s.cpu.y }) ∧
    exec .tsx s = .next (done { c with x := s.cpu.s, p := s.cpu.p.nz s.cpu.s }) ∧
    exec .txs s = .next (done { c with s := s.cpu.x }) ∧
    exec .inx s = .next (done { c with x := inc s.cpu.x, p := s.cpu.p.nz (inc s.cpu.x) }) ∧
    exec .iny s = .next (done { c with y := inc s.cpu.y, p := s.cpu.p.nz (inc s.cpu.y) }) ∧
    exec .dex s = .next (done { c with x := dec s.cpu.x, p := s.cpu.p.nz (dec s.cpu.x) }) ∧
    exec .dey s = .next (done { c with y := dec s.cpu.y, p := s.cpu.p.nz (dec s.cpu.y) })

/-- R340, R356, R357: ADC in every mode completes from every state: `A` is the sum modulo 256, C is set exactly when the
integer sum reaches 256, V exactly when the two's-complement sum leaves -128..127, N and Z follow the result.
The spec's own marks: general knowledge R340; derived R356, R357. -/
def Obligations.AdcResult : Prop :=
  ∀ (i : Instr) (s : State),
    i.opcode ∈ ([0x69, 0x65, 0x75, 0x6D, 0x7D, 0x79, 0x61, 0x71] : List Byte) →
    let m := (operandOf i s).1
    let sum := s.cpu.a.toNat + m.toNat + bitNat s.cpu.p.c
    let signed := s.cpu.a.toInt + m.toInt + bitNat s.cpu.p.c
    exec i s = .next (finish i s (operandOf i s).2 { s.cpu with
      a := BitVec.ofNat 8 sum
      p := { s.cpu.p.nz (BitVec.ofNat 8 sum) with
        c := decide (256 ≤ sum), v := decide (signed < -128 ∨ 127 < signed) } })

/-- R341, R356, R357: SBC in every mode completes from every state: `A` is the difference modulo 256, C is set exactly when
the integer difference is not negative, V exactly when the two's-complement difference leaves -128..127.
The spec's own marks: general knowledge R341; derived R356, R357; decision R341 (D25). -/
def Obligations.SbcResult : Prop :=
  ∀ (i : Instr) (s : State),
    i.opcode ∈ ([0xE9, 0xE5, 0xF5, 0xED, 0xFD, 0xF9, 0xE1, 0xF1] : List Byte) →
    let m := (operandOf i s).1
    let diff := (s.cpu.a.toNat : Int) - m.toNat - bitNat (!s.cpu.p.c)
    let signed := s.cpu.a.toInt - m.toInt - bitNat (!s.cpu.p.c)
    exec i s = .next (finish i s (operandOf i s).2 { s.cpu with
      a := BitVec.ofInt 8 diff
      p := { s.cpu.p.nz (BitVec.ofInt 8 diff) with
        c := decide (0 ≤ diff), v := decide (signed < -128 ∨ 127 < signed) } })

/-- R358, R359: SBC of an operand leaves the state that ADC of its complement leaves; and ADC and SBC do not read `P.D`: with
the flag at `d` instead, the result is the same but for that flag.
The spec's own marks: general knowledge R359; derived R358. -/
def Obligations.AdcSbcLaws : Prop :=
  (∀ (m : Byte) (s : State), exec (.sbcImm m) s = exec (.adcImm (~~~m)) s) ∧
  ∀ (i : Instr) (s t : State) (d : Bool), i.entry.mnemonic = .adc ∨ i.entry.mnemonic = .sbc → exec i s = .next t →
    exec i { s with cpu := { s.cpu with p := { s.cpu.p with d := d } } } =
      .next { t with cpu := { t.cpu with p := { t.cpu.p with d := d } } }

/-- R342, R343, R344: AND, ORA, EOR in every mode complete from every state: bit by bit on `A`, N and Z from the result.
The spec's own marks: general knowledge R342 to R344. -/
def Obligations.LogicResults : Prop :=
  ∀ (i : Instr) (s : State) (r : Byte),
    (i.opcode ∈ ([0x29, 0x25, 0x35, 0x2D, 0x3D, 0x39, 0x21, 0x31] : List Byte) →
      (∀ k, k < 8 → r.getLsbD k = (s.cpu.a.getLsbD k && (operandOf i s).1.getLsbD k)) →
      exec i s = .next (finish i s (operandOf i s).2 { s.cpu with a := r, p := s.cpu.p.nz r })) ∧
    (i.opcode ∈ ([0x09, 0x05, 0x15, 0x0D, 0x1D, 0x19, 0x01, 0x11] : List Byte) →
      (∀ k, k < 8 → r.getLsbD k = (s.cpu.a.getLsbD k || (operandOf i s).1.getLsbD k)) →
      exec i s = .next (finish i s (operandOf i s).2 { s.cpu with a := r, p := s.cpu.p.nz r })) ∧
    (i.opcode ∈ ([0x49, 0x45, 0x55, 0x4D, 0x5D, 0x59, 0x41, 0x51] : List Byte) →
      (∀ k, k < 8 → r.getLsbD k = Bool.xor (s.cpu.a.getLsbD k) ((operandOf i s).1.getLsbD k)) →
      exec i s = .next (finish i s (operandOf i s).2 { s.cpu with a := r, p := s.cpu.p.nz r }))

/-- R345 to R348: CMP, CPX, CPY and BIT in every mode complete from every state: a compare sets C when the register is at
least the operand, N and Z from the difference modulo 256; BIT sets Z when `A` and the byte share no bit, N and V from the
byte's bits 7 and 6; no register and no other flag is written.
The spec's own marks: general knowledge R345 to R348. -/
def Obligations.CompareResults : Prop :=
  ∀ (i : Instr) (s : State),
    let m := (operandOf i s).1
    let flags := fun r : Byte =>
      { s.cpu.p.nz (BitVec.ofInt 8 ((r.toNat : Int) - m.toNat)) with c := decide (m.toNat ≤ r.toNat) }
    let bit := { s.cpu.p with
      z := decide (s.cpu.a &&& m = 0), n := decide (m.toNat / 128 = 1), v := decide (m.toNat / 64 % 2 = 1) }
    (i.opcode ∈ ([0xC9, 0xC5, 0xD5, 0xCD, 0xDD, 0xD9, 0xC1, 0xD1] : List Byte) →
      exec i s = .next (finish i s (operandOf i s).2 { s.cpu with p := flags s.cpu.a })) ∧
    (i.opcode ∈ ([0xE0, 0xE4, 0xEC] : List Byte) →
      exec i s = .next (finish i s (operandOf i s).2 { s.cpu with p := flags s.cpu.x })) ∧
    (i.opcode ∈ ([0xC0, 0xC4, 0xCC] : List Byte) →
      exec i s = .next (finish i s (operandOf i s).2 { s.cpu with p := flags s.cpu.y })) ∧
    (i.opcode ∈ ([0x24, 0x2C] : List Byte) →
      exec i s = .next (finish i s (operandOf i s).2 { s.cpu with p := bit }))

/-- R349, R350: INC and DEC in every mode complete from every state: one read and one write of the effective address, the
byte plus or minus 1 modulo 256, N and Z from it, C and V unchanged.
The spec's own marks: general knowledge R349, R350. -/
def Obligations.IncDecResults : Prop :=
  ∀ (i : Instr) (s : State),
    let m := (operandOf i s).1
    (i.opcode ∈ ([0xE6, 0xF6, 0xEE, 0xFE] : List Byte) →
      exec i s = .next (finishStore i s (operandOf i s).2 (resolveOf i s).ea (BitVec.ofNat 8 (m.toNat + 1))
        { s.cpu with p := s.cpu.p.nz (BitVec.ofNat 8 (m.toNat + 1)) })) ∧
    (i.opcode ∈ ([0xC6, 0xD6, 0xCE, 0xDE] : List Byte) →
      exec i s = .next (finishStore i s (operandOf i s).2 (resolveOf i s).ea (BitVec.ofNat 8 (m.toNat + 255))
        { s.cpu with p := s.cpu.p.nz (BitVec.ofNat 8 (m.toNat + 255)) }))

/-- R380 to R383: ASL, LSR, ROL, ROR complete from every state: the byte doubled or halved, the lost bit in C, the new bit 0
or the old carry, N and Z from the result, V unchanged; on `A`, or with one read and one write of the effective address.
The spec's own marks: general knowledge R380 to R383. -/
def Obligations.ShiftResults : Prop :=
  ∀ (i : Instr) (s : State),
    let m := (operandOf i s).1.toNat
    let a := s.cpu.a.toNat
    let cin := bitNat s.cpu.p.c
    let flags := fun (r : Nat) (c : Bool) => { s.cpu.p.nz (BitVec.ofNat 8 r) with c := c }
    let mem := fun (r : Nat) (c : Bool) =>
      finishStore i s (operandOf i s).2 (resolveOf i s).ea (BitVec.ofNat 8 r) { s.cpu with p := flags r c }
    let acc := fun (r : Nat) (c : Bool) =>
      finish i s (startOf i s) { s.cpu with a := BitVec.ofNat 8 r, p := flags r c }
    (i.opcode ∈ ([0x06, 0x16, 0x0E, 0x1E] : List Byte) → exec i s = .next (mem (2 * m) (decide (128 ≤ m)))) ∧
    (i.opcode ∈ ([0x46, 0x56, 0x4E, 0x5E] : List Byte) → exec i s = .next (mem (m / 2) (decide (m % 2 = 1)))) ∧
    (i.opcode ∈ ([0x26, 0x36, 0x2E, 0x3E] : List Byte) → exec i s = .next (mem (2 * m + cin) (decide (128 ≤ m)))) ∧
    (i.opcode ∈ ([0x66, 0x76, 0x6E, 0x7E] : List Byte) →
      exec i s = .next (mem (m / 2 + 128 * cin) (decide (m % 2 = 1)))) ∧
    (i.opcode = 0x0A → exec i s = .next (acc (2 * a) (decide (128 ≤ a)))) ∧
    (i.opcode = 0x4A → exec i s = .next (acc (a / 2) (decide (a % 2 = 1)))) ∧
    (i.opcode = 0x2A → exec i s = .next (acc (2 * a + cin) (decide (128 ≤ a)))) ∧
    (i.opcode = 0x6A → exec i s = .next (acc (a / 2 + 128 * cin) (decide (a % 2 = 1))))

/-! ## Control flow (45_control_flow.md) -/

/-- R403 to R411: the eight branches complete from every state: taken exactly when the named flag has the opcode's polarity,
to `LastPC + 2` plus the signed displacement modulo 2^16, with the cycles of R267; no flag is written.
The spec's own marks: general knowledge R267, R404 to R411; decision R267 (D24), R403 (D24). -/
def Obligations.BranchResults : Prop :=
  ∀ (s : State) (o : Byte),
    exec (.bcc o) s = .next (afterBranch s o (!s.cpu.p.c)) ∧ exec (.bcs o) s = .next (afterBranch s o s.cpu.p.c) ∧
    exec (.bne o) s = .next (afterBranch s o (!s.cpu.p.z)) ∧ exec (.beq o) s = .next (afterBranch s o s.cpu.p.z) ∧
    exec (.bpl o) s = .next (afterBranch s o (!s.cpu.p.n)) ∧ exec (.bmi o) s = .next (afterBranch s o s.cpu.p.n) ∧
    exec (.bvc o) s = .next (afterBranch s o (!s.cpu.p.v)) ∧ exec (.bvs o) s = .next (afterBranch s o s.cpu.p.v)

/-- R400, R401: JMP completes from every state; JSR completes when its two pushes pass the stack check: the address of its
last byte is pushed, high byte first, and `PC` is the target.
The spec's own marks: general knowledge R400, R401. -/
def Obligations.JumpResults : Prop :=
  ∀ (s : State) (w : Word),
    let p := resolve (.ind w) (startOf (.jmpInd w) s)
    exec (.jmpAbs w) s = .next (finish (.jmpAbs w) s s s.cpu |>.withCpu { s.cpu.past 3 with pc := w }) ∧
    exec (.jmpInd w) s = .next (finish (.jmpInd w) s p.st s.cpu |>.withCpu { s.cpu.past 3 with pc := p.ea }) ∧
    (pushOk s 2 → exec (.jsr w) s = .next
      { s with
        cycles := s.cycles + 6
        cpu := { s.cpu.past 3 with pc := w, s := s.cpu.s - 2 }
        ram := pushedRam s 0 [highByte (s.cpu.pc + 2), lowByte (s.cpu.pc + 2)] })

/-! ## Flags, NOP, stack, BRK (46_flags_system.md, 42_stack.md) -/

/-- R430 to R437: the flag instructions and NOP complete from every state: the one flag, `PC` and `LastPC`, two cycles.
The spec's own marks: general knowledge R430 to R437; decision R432 (D28). -/
def Obligations.FlagInstructionResults : Prop :=
  ∀ s : State,
    let done := fun p : Status => ({ s with cycles := s.cycles + 2, cpu := { s.cpu.past 1 with p := p } } : State)
    exec .clc s = .next (done { s.cpu.p with c := false }) ∧ exec .sec s = .next (done { s.cpu.p with c := true }) ∧
    exec .cli s = .next (done { s.cpu.p with i := false }) ∧ exec .sei s = .next (done { s.cpu.p with i := true }) ∧
    exec .cld s = .next (done { s.cpu.p with d := false }) ∧ exec .sed s = .next (done { s.cpu.p with d := true }) ∧
    exec .clv s = .next (done { s.cpu.p with v := false }) ∧ exec .nop s = .next (done s.cpu.p)

/-- R330, R331, R440: PHA, PHP and BRK complete when their pushes pass the stack check: the byte lands at $0100 + `S`, `S`
steps down; PHP and BRK push `P` with bits 5 and 4 set; BRK pushes `LastPC + BRK_RETURN_OFFSET` before it, sets I alone and
continues at the word at $FFFE.
The spec's own marks: general knowledge R330, R331, R440; decision R331 (D4), R440 (D26). -/
def Obligations.PushResults : Prop :=
  ∀ s : State,
    let ret := s.cpu.pc + BitVec.ofNat 16 s.params.brkReturnOffset
    let status := BitVec.ofNat 8 (statusValue s.cpu.p true)
    (pushOk s 1 → exec .pha s = .next
      { s with
        cycles := s.cycles + 3
        cpu := { s.cpu.past 1 with s := s.cpu.s - 1 }
        ram := pushedRam s 0 [s.cpu.a] }) ∧
    (pushOk s 1 → exec .php s = .next
      { s with
        cycles := s.cycles + 3
        cpu := { s.cpu.past 1 with s := s.cpu.s - 1 }
        ram := pushedRam s 0 [status] }) ∧
    (pushOk s 3 → exec .brk s = .next
      { s with
        cycles := s.cycles + 7
        cpu := { s.cpu.past 1 with
          s := s.cpu.s - 3, p := { s.cpu.p with i := true }, pc := wordOf (peek s 0xFFFE) (peek s 0xFFFF) }
        ram := pushedRam s 0 [highByte ret, lowByte ret, status] })

/-- R332, R333, R402, R441: PLA, PLP, RTS and RTI complete when their pulls pass the stack check: PLA takes the byte with N
and Z, PLP and RTI take every flag from the byte's bits; RTS continues at the pulled word plus 1, RTI at the word itself.
The spec's own marks: general knowledge R332, R333, R402, R441; decision R333 (D4). -/
def Obligations.PullResults : Prop :=
  ∀ s : State,
    (pullOk s 1 → exec .pla s = .next
      { s with
        cycles := s.cycles + 4
        cpu := { s.cpu.past 1 with s := s.cpu.s + 1, a := pulled s 1, p := s.cpu.p.nz (pulled s 1) }
        ram := pulledRam s 1 }) ∧
    (pullOk s 1 → exec .plp s = .next
      { s with
        cycles := s.cycles + 4
        cpu := { s.cpu.past 1 with s := s.cpu.s + 1, p := statusFrom (pulled s 1).toNat }
        ram := pulledRam s 1 }) ∧
    (pullOk s 2 → exec .rts s = .next
      { s with
        cycles := s.cycles + 6
        cpu := { s.cpu.past 1 with s := s.cpu.s + 2, pc := wordOf (pulled s 1) (pulled s 2) + 1 }
        ram := pulledRam s 2 }) ∧
    (pullOk s 3 → exec .rti s = .next
      { s with
        cycles := s.cycles + 6
        cpu := { s.cpu.past 1 with
          s := s.cpu.s + 3, p := statusFrom (pulled s 1).toNat, pc := wordOf (pulled s 2) (pulled s 3) }
        ram := pulledRam s 3 })

/-- R124, R503: a stack instruction whose check fails records StackOverflow or StackUnderflow with `S` and its own address
before its first access: `PC` and `LastPC` have advanced, no other register, flag, byte or cycle has changed.
The spec's own marks: decision R124 (D9), R503 (D29). -/
def Obligations.StackCheckFaults : Prop :=
  ∀ s : State,
    (¬ pushOk s 1 → ∀ i : Instr, i = .pha ∨ i = .php →
      exec i s = .next (stackFaulted i s (.stackOverflow s.cpu.s s.cpu.pc))) ∧
    (¬ pushOk s 2 → ∀ w, exec (.jsr w) s = .next (stackFaulted (.jsr w) s (.stackOverflow s.cpu.s s.cpu.pc))) ∧
    (¬ pushOk s 3 → exec .brk s = .next (stackFaulted .brk s (.stackOverflow s.cpu.s s.cpu.pc))) ∧
    (¬ pullOk s 1 → ∀ i : Instr, i = .pla ∨ i = .plp →
      exec i s = .next (stackFaulted i s (.stackUnderflow s.cpu.s s.cpu.pc))) ∧
    (¬ pullOk s 2 → exec .rts s = .next (stackFaulted .rts s (.stackUnderflow s.cpu.s s.cpu.pc))) ∧
    (¬ pullOk s 3 → exec .rti s = .next (stackFaulted .rti s (.stackUnderflow s.cpu.s s.cpu.pc)))

/-- R122, R123: a word is pushed high byte first and pulled low byte first; whatever `S` is, pushing a word and pulling it
gives the word back and restores `S`, and leaves every byte of memory outside the two stack slots as it was; without
`STACK_CLEAR_ON_POP` the two bytes stay, the high byte in the slot pushed first, which is the higher but at `S` = 0. -/
def Obligations.PushPullWord : Prop :=
  ∀ (s : State) (w : Word),
    push16 w s = push8 (lowByte w) (push8 (highByte w) s) ∧
    pull16 s = (wordOf (pull8 s).1 (pull8 (pull8 s).2).1, (pull8 (pull8 s).2).2) ∧
    (s.cpu.s ≠ 0 → pushSlot s 0 = pushSlot s 1 + 1) ∧
    (pull16 (push16 w s)).1 = w ∧ (pull16 (push16 w s)).2.cpu = s.cpu ∧
    (∀ a : Word, isPort a = false → target a ≠ .ram (pushSlot s 0) → target a ≠ .ram (pushSlot s 1) →
      peek (pull16 (push16 w s)).2 a = peek s a) ∧
    (s.params.stackClearOnPop = false → (pull16 (push16 w s)).2 = { s with ram := (push16 w s).ram } ∧
      cellRead (push16 w s).ram (pushSlot s 0) = highByte w ∧ cellRead (push16 w s).ram (pushSlot s 1) = lowByte w)

/-- R401, R402, R440, R441, R525: from every state whose stack check passes, RTS at the state JSR leaves returns to the byte
after the JSR with every other register and flag as before; RTI at the state BRK leaves resumes at `LastPC +
BRK_RETURN_OFFSET` with every register and flag restored, but B, which reads back 1.
The spec's own marks: general knowledge R401, R402, R440, R441; derived R525; decision R440 (D26). -/
def Obligations.CallsReturn : Prop :=
  ∀ s t : State,
    (∀ w, pushOk s 2 → exec (.jsr w) s = .next t →
      ∃ u, exec .rts t = .next u ∧ u.cpu.pc = s.cpu.pc + 3 ∧ sameRegisters s u) ∧
    (pushOk s 3 → exec .brk s = .next t →
      ∃ u, exec .rti t = .next u ∧ u.cpu.pc = s.cpu.pc + BitVec.ofNat 16 s.params.brkReturnOffset ∧
        u.cpu.a = s.cpu.a ∧ u.cpu.x = s.cpu.x ∧ u.cpu.y = s.cpu.y ∧ u.cpu.s = s.cpu.s ∧
        u.cpu.p = { s.cpu.p with b := true })

/-- R520: NMI entry pushes `PC` and `P` (bit 5 set, bit 4 `NMI_PUSH_B`), sets I, continues at the word at $FFFA and counts
`NMI_ENTRY_CYCLES`; it is not masked by I, and RTI then resumes at the pushed `PC`. A failed check records the fault.
The spec's own marks: general knowledge R520; decision R520 (D27/D4/D6). -/
def Obligations.NmiEntry : Prop :=
  ∀ s : State,
    (pushOk s 3 →
      nmiEntry s =
        { s with
          cycles := s.cycles + s.params.nmiEntryCycles
          cpu := { s.cpu with
            s := s.cpu.s - 3, p := { s.cpu.p with i := true }, pc := wordOf (peek s 0xFFFA) (peek s 0xFFFB) }
          ram := pushedRam s 0 [highByte s.cpu.pc, lowByte s.cpu.pc,
            BitVec.ofNat 8 (statusValue s.cpu.p s.params.nmiPushB)] } ∧
      ∃ u, exec .rti (nmiEntry s) = .next u ∧ u.cpu.pc = s.cpu.pc ∧ u.cpu.s = s.cpu.s ∧
        u.cpu.p = { s.cpu.p with b := s.params.nmiPushB }) ∧
    (¬ pushOk s 3 → nmiEntry s = { s with fault := some (s.fault.getD (.stackOverflow s.cpu.s s.cpu.lastPC)) })

/-! ## Frames (10_state.md) -/

/-- R31 to R33, R41, R45: an instruction changes `A`, `X`, `Y` or `S` only when the spec names it as a destination (for `S`,
also a push or pull), and a flag only when its row of R45 says so; B changes only by PLP and RTI; `LastPC` becomes the
instruction's address.
The spec's own marks: general knowledge R32; derived R45; decision R31 (D5), R32 (D5), R33 (D5), R41 (D4). -/
def Obligations.RegisterAndFlagFrame : Prop :=
  ∀ (i : Instr) (s t : State), exec i s = .next t →
    (writesA i = false → t.cpu.a = s.cpu.a) ∧ (writesX i = false → t.cpu.x = s.cpu.x) ∧
    (writesY i = false → t.cpu.y = s.cpu.y) ∧ (writesS i = false → t.cpu.s = s.cpu.s) ∧ t.cpu.lastPC = s.cpu.pc ∧
    (writesNZ i.entry.mnemonic = false → t.cpu.p.n = s.cpu.p.n ∧ t.cpu.p.z = s.cpu.p.z) ∧
    (writesV i.entry.mnemonic = false → t.cpu.p.v = s.cpu.p.v) ∧
    (writesD i.entry.mnemonic = false → t.cpu.p.d = s.cpu.p.d) ∧
    (writesI i.entry.mnemonic = false → t.cpu.p.i = s.cpu.p.i) ∧
    (writesC i.entry.mnemonic = false → t.cpu.p.c = s.cpu.p.c) ∧
    (i.entry.mnemonic ≠ .plp → i.entry.mnemonic ≠ .rti → t.cpu.p.b = s.cpu.p.b)

/-- The frame of every instruction that stores nothing (loads, arithmetic, logic, compares, BIT, accumulator shifts,
transfers, flags, branches, JMP, NOP): every byte of memory reads as before, and of the devices only what a port read may
change (R109) has changed.
The spec's own marks: decision R109 (D45). -/
def Obligations.NoStoreFrame : Prop :=
  ∀ (i : Instr) (s t : State), storesNothing i = true → exec i s = .next t → onlyReads s t ∧ sameMemory s t

/-- The frame of every instruction that stores one byte at its effective address (STA, STX, STY, INC, DEC, memory shifts and
rotates): below ROM every other byte reads as before; at a port every byte reads as before; in ROM the mapper alone
changes, no RAM byte and no PRG byte. -/
def Obligations.StoreFrame : Prop :=
  ∀ (i : Instr) (s t : State), storesOne i = true → exec i s = .next t →
    let ea := (resolveOf i s).ea
    (isRom ea = false → sameMemoryBut ea s t ∧ t.mapper = s.mapper) ∧
    (isPort ea = true → sameMemory s t) ∧
    (isRom ea = true → sameRamAndPrg s t) ∧
    (isPort ea = false → t.chrRam = s.chrRam ∧ t.ppu = s.ppu ∧ t.apu = s.apu ∧ t.pad = s.pad)

/-- The frame of the stack instructions (PHA, PHP, PLA, PLP, JSR, RTS, BRK, RTI): every byte of memory outside the slots they
push to or pull from reads as before, and no device, mapper or cartridge state changes. -/
def Obligations.StackFrame : Prop :=
  ∀ (i : Instr) (s t : State), exec i s = .next t →
    (∀ k : Nat, (i.entry.mnemonic ∈ ([.pha, .php] : List Mnemonic) ∧ k = 1) ∨ (i.entry.mnemonic = .jsr ∧ k = 2) ∨
        (i.entry.mnemonic = .brk ∧ k = 3) →
      t = { s with cpu := t.cpu, ram := t.ram, cycles := t.cycles, fault := t.fault } ∧
      ∀ a : Word, isPort a = false → (∀ n, n < k → target a ≠ .ram (pushSlot s n)) → peek t a = peek s a) ∧
    (∀ k : Nat, (i.entry.mnemonic ∈ ([.pla, .plp] : List Mnemonic) ∧ k = 1) ∨ (i.entry.mnemonic = .rts ∧ k = 2) ∨
        (i.entry.mnemonic = .rti ∧ k = 3) →
      t = { s with cpu := t.cpu, ram := t.ram, cycles := t.cycles, fault := t.fault } ∧
      (s.params.stackClearOnPop = false → t.ram = s.ram) ∧
      ∀ a : Word, isPort a = false → (∀ n, 1 ≤ n → n ≤ k → target a ≠ .ram (pullSlot s n)) → peek t a = peek s a)

/-! ## Memory, ports and mappers (20_memory.md, 21_mappers.md) -/

/-- R101, R102, R105: work RAM and its mirrors read and write the same 2 KB; the PPU ports repeat every 8 bytes up to $3FFF;
$4000-$401F are the other ports, $4020-$7FFF cartridge space, the rest ROM.
The spec's own marks: decision R105 (D12). -/
def Obligations.AddressDecoding : Prop :=
  ∀ (a : Word) (v : Byte) (s : State),
    (a.toNat ≤ 0x1FFF → memRead a s = (cellRead s.ram (a.toNat % 0x800), s) ∧
      memWrite a v s = { s with ram := cellWrite s.ram (a.toNat % 0x800) v }) ∧
    (0x2000 ≤ a.toNat → a.toNat ≤ 0x3FFF → memRead a s = memRead (BitVec.ofNat 16 (0x2000 + a.toNat % 8)) s ∧
      memWrite a v s = memWrite (BitVec.ofNat 16 (0x2000 + a.toNat % 8)) v s ∧ isPort a = true) ∧
    (0x4000 ≤ a.toNat → a.toNat ≤ 0x401F → isPort a = true) ∧
    (0x4020 ≤ a.toNat → a.toNat ≤ 0x7FFF → s.params.lowCartRegion = .ram →
      memRead a s = (cellRead s.ram a.toNat, s) ∧ memWrite a v s = { s with ram := cellWrite s.ram a.toNat v }) ∧
    (0x4020 ≤ a.toNat → a.toNat ≤ 0x7FFF → s.params.lowCartRegion = .zero →
      memRead a s = (0, s) ∧ memWrite a v s = s) ∧
    (0x8000 ≤ a.toNat → isRom a = true)

/-- R130: a byte of RAM reads as the last write to the same storage byte, through any mirror, and a write of one byte leaves
every other byte of memory as it was. -/
def Obligations.ReadAfterWrite : Prop :=
  ∀ (a b : Word) (v : Byte) (s : State), isPort a = false → isRom a = false → isPort b = false →
    (a.toNat ≤ 0x1FFF ∨ s.params.lowCartRegion = .ram) →
    (target a = target b ↔ a = b ∨ (a.toNat ≤ 0x1FFF ∧ b.toNat ≤ 0x1FFF ∧ a.toNat % 0x800 = b.toNat % 0x800)) ∧
    peek (memWrite a v s) b = if target a = target b then v else peek s b

/-- R109: the reads with side effects are exactly $2002, $2007, $4015 and $4016, with the effects named; every other read
leaves the whole state as it was.
The spec's own marks: decision R109 (D45). -/
def Obligations.ReadSideEffects : Prop :=
  ∀ (a : Word) (s : State),
    (target a = .port 0x2002 → (memRead a s).2 = { s with ppu := { s.ppu with vblank := false, w := false } }) ∧
    (target a = .port 0x2007 → (memRead a s).2 = { s with ppu := { s.ppu with
      buffer := if s.ppu.v.toNat % 0x4000 < 0x3F00 then ppuRead s (s.ppu.v.toNat % 0x4000) else s.ppu.buffer
      v := BitVec.ofNat 15 (s.ppu.v.toNat + if s.ppu.ctrl.getLsbD 2 then 32 else 1) } }) ∧
    (target a = .port 0x4015 → (memRead a s).2 = { s with apu := { s.apu with frameIrq := false } }) ∧
    (target a = .port 0x4016 → (memRead a s).2 = { s with pad := { s.pad with
      pos := if s.pad.strobe = false ∧ s.pad.pos < 8 then s.pad.pos + 1 else s.pad.pos } }) ∧
    (target a ≠ .port 0x2002 → target a ≠ .port 0x2007 → target a ≠ .port 0x4015 → target a ≠ .port 0x4016 →
      (memRead a s).2 = s)

/-- R104, R107, R622, R630: a read of a port with no read handler returns 0 and changes nothing; a write of a port with no
write handler, and of $2002, changes nothing.
The spec's own marks: general knowledge R622; decision R104 (D13/D14), R622 (D14), R630 (D14). -/
def Obligations.UnsupportedPorts : Prop :=
  ∀ (a : Word) (v : Byte) (s : State) (p : Nat), target a = .port p →
    (p ∉ ([0x2002, 0x2004, 0x2007, 0x4015, 0x4016] : List Nat) → memRead a s = (0, s)) ∧
    (p ∈ ([0x2002, 0x4009, 0x400D, 0x4010, 0x4011, 0x4012, 0x4013] : List Nat) ∨ 0x4018 ≤ p → memWrite a v s = s)

/-- R106, R162, R166, R171, R177, R186: the PRG byte each mapper shows at $8000-$FFFF; reading it changes nothing.
The spec's own marks: general knowledge R177; decision R162 (D17), R177 (D19), R186 (D17). -/
def Obligations.PrgMapping : Prop :=
  ∀ (a : Word) (s : State), 0x8000 ≤ a.toNat →
    let off := a.toNat % 0x4000
    let last := s.cart.nPrg - 1
    (s.mapper = .nrom ∨ (∃ b, s.mapper = .cnrom b) →
      memRead a s = (prgByte s.cart (if a.toNat < 0xC000 then 0 else last) off, s)) ∧
    (∀ b, s.mapper = .unrom b →
      memRead a s = (prgByte s.cart (if a.toNat < 0xC000 then b.toNat else last) off, s)) ∧
    (∀ r, s.mapper = .mmc1 r →
      let pm := r.control.toNat / 4 % 4
      let pb := r.prg.toNat % 16
      memRead a s = (prgByte s.cart
        (if pm ≤ 1 then pb / 2 * 2 + (if a.toNat < 0xC000 then 0 else 1)
         else if pm = 2 then (if a.toNat < 0xC000 then 0 else pb)
         else (if a.toNat < 0xC000 then pb else last)) off, s))

/-- R106, R167, R170, R185: a write to $8000-$FFFF changes no PRG byte and nothing but the mapper: NROM ignores it, UNROM
and CNROM select a bank from the written value.
The spec's own marks: decision R167 (D17), R170 (D18). -/
def Obligations.BankWrites : Prop :=
  ∀ (a : Word) (v : Byte) (s : State), 0x8000 ≤ a.toNat →
    (memWrite a v s).cart = s.cart ∧ (∃ m, memWrite a v s = { s with mapper := m }) ∧
    (s.mapper = .nrom → memWrite a v s = s) ∧
    (∀ b, s.mapper = .unrom b → memWrite a v s =
      { s with mapper := .unrom (BitVec.ofNat 3 (if 8 ≤ s.cart.nPrg then v.toNat % 8 else v.toNat % 4)) }) ∧
    (∀ b, s.mapper = .cnrom b → memWrite a v s = { s with mapper := .cnrom (BitVec.ofNat 2 (v.toNat % 4)) })

/-- R175, R190: from an empty shift register, five writes without bit 7 commit their low bits, first written lowest, to the
register the fifth address selects, and empty the shift state; no partial commit; a write with bit 7 empties it at once
and sets control bits 3..2.
The spec's own marks: general knowledge R175; decision R175 (D19). -/
def Obligations.Mmc1Serial : Prop :=
  ∀ (s : State) (r : Mmc1), s.mapper = .mmc1 r →
    (∀ (a : Word) (v : Byte), 0x8000 ≤ a.toNat → 128 ≤ v.toNat → memWrite a v s =
      { s with mapper := .mmc1 { r with shift := 0, count := 0, control := r.control ||| 0x0C } }) ∧
    (∀ (a : Word) (v : Byte), 0x8000 ≤ a.toNat → v.toNat < 128 → r.count < 4 → memWrite a v s =
      { s with mapper := .mmc1 { r with shift := BitVec.ofNat 5 (r.shift.toNat / 2 + 16 * (v.toNat % 2)),
                                        count := r.count + 1 } }) ∧
    (∀ (a0 a1 a2 a3 a4 : Word) (v0 v1 v2 v3 v4 : Byte), r.count = 0 →
      0x8000 ≤ a0.toNat → 0x8000 ≤ a1.toNat → 0x8000 ≤ a2.toNat → 0x8000 ≤ a3.toNat → 0x8000 ≤ a4.toNat →
      v0.toNat < 128 → v1.toNat < 128 → v2.toNat < 128 → v3.toNat < 128 → v4.toNat < 128 →
      let word := BitVec.ofNat 5 (v0.toNat % 2 + 2 * (v1.toNat % 2) + 4 * (v2.toNat % 2) + 8 * (v3.toNat % 2) +
        16 * (v4.toNat % 2))
      writeMany [(a0, v0), (a1, v1), (a2, v2), (a3, v3), (a4, v4)] s = s.withMapper (.mmc1
        (if a4.toNat ≤ 0x9FFF then { r with shift := 0, count := 0, control := word }
         else if a4.toNat ≤ 0xBFFF then { r with shift := 0, count := 0, chr0 := word }
         else if a4.toNat ≤ 0xDFFF then { r with shift := 0, count := 0, chr1 := word }
         else { r with shift := 0, count := 0, prg := word })))

/-- R163, R168, R172, R178, R187: each mapper's translation of a pattern address, and that the offset lies inside CHR
memory whatever the mapper's registers hold.
The spec's own marks: general knowledge R178; decision R163 (D21), R168 (D17), R172 (D18), R178 (D19), R187 (D17). -/
def Obligations.ChrMapping : Prop :=
  ∀ (m : Mapper) (size p : Nat), 0 < size → size % 8192 = 0 → p < 0x2000 →
    chrOffset m size p < size ∧
    (m = .nrom ∨ (∃ b, m = .unrom b) → chrOffset m size p = p) ∧
    (∀ r, m = .mmc1 r → chrOffset m size p =
      (if r.control.toNat / 16 = 0 then r.chr0.toNat / 2 * 2 + p / 0x1000
       else if p < 0x1000 then r.chr0.toNat else r.chr1.toNat) % (size / 0x1000) * 0x1000 + p % 0x1000) ∧
    (∀ b, m = .cnrom b → chrOffset m size p = b.toNat % (size / 0x2000) * 0x2000 + p)

/-! ## PPU (61_ppu.md) -/

/-- R163, R164, R611, R612, R613: what a PPU write changes, in its own memory only, as the PPU reads it back. Below $2000: with
CHR RAM the byte at the mapper's offset, no other pattern byte; with CHR ROM nothing. Nametables fold onto two pages by
the mirroring mode, and $3000-$3EFF onto $2000-$2EFF; palette entries $10, $14, $18, $1C are the storage of $00, $04,
$08, $0C.
The spec's own marks: general knowledge R611 to R613; decision R163 (D21), R164 (D21), R612 (D22/D20), R613 (D33). -/
def Obligations.VideoMirroring : Prop :=
  ∀ (s : State) (a b : Nat) (v : Byte),
    (a < 0x2000 → b < 0x2000 →
      (s.cart.nChr = 0 → s.params.chrRamWhenNoChr = true →
        (∃ ram, ppuWrite s a v = { s with chrRam := ram }) ∧
        ppuRead s b = cellRead s.chrRam (chrOffset s.mapper 8192 b) ∧
        ppuRead (ppuWrite s a v) b =
          if chrOffset s.mapper 8192 a = chrOffset s.mapper 8192 b then v else ppuRead s b) ∧
      (0 < s.cart.nChr → ppuWrite s a v = s ∧
        ppuRead s b = cellRead s.cart.chr (chrOffset s.mapper (8192 * s.cart.nChr) b))) ∧
    (0x2000 ≤ a → a < 0x3F00 → ∃ nt, ppuWrite s a v = { s with ppu := { s.ppu with nt := nt } }) ∧
    (0x3F00 ≤ a → a < 0x4000 → ∃ pal, ppuWrite s a v = { s with ppu := { s.ppu with pal := pal } }) ∧
    (0x2000 ≤ a → a < 0x3F00 → 0x2000 ≤ b → b < 0x3F00 →
      let qa := a % 0x1000
      let qb := b % 0x1000
      let same := qa % 0x400 = qb % 0x400 ∧
        (mirrorMode s = 2 → qa / 0x400 % 2 = qb / 0x400 % 2) ∧ (mirrorMode s = 3 → qa / 0x800 = qb / 0x800)
      ppuRead (ppuWrite s a v) b = if same then v else ppuRead s b) ∧
    (0x3F00 ≤ a → a < 0x4000 → 0x3F00 ≤ b → b < 0x4000 →
      ppuRead (ppuWrite s a v) b =
        if a % 32 = b % 32 ∨ (a % 4 = 0 ∧ a % 16 = b % 16) then v else ppuRead s b) ∧
    ((∀ r, s.mapper ≠ .mmc1 r) ∨ s.params.mmc1MirroringApplied = false →
      mirrorMode s = if s.cart.mirroring = true then 2 else 3) ∧
    (∀ r, s.mapper = .mmc1 r → s.params.mmc1MirroringApplied = true → mirrorMode s = r.control.toNat % 4)

/-- R620 to R627, R630, R632: the PPU ports $2000 to $2006. $2000 sets `ctrl` and the nametable bits of `t`, $2001 `mask`,
$2003 `oamaddr`; $2004 writes OAM and steps `oamaddr`, or reads it and steps nothing; $2002 reads the three status bits
and clears VBlank and the toggle; a first write of $2005 or $2006 sets fine X and coarse X, or the high address bits, and
the toggle; a second one fine Y and coarse Y, or the low address bits and `v`, and clears it.
The spec's own marks: general knowledge R620 to R622, R624, R626, R627, R632; decision R620 (D34), R621 (D37), R622
(D14), R625 (D41), R626 (D31), R627 (D31), R630 (D14), R632 (D31). -/
def Obligations.ScrollAndAddress : Prop :=
  ∀ (s : State) (v x y : Byte),
    let t := s.ppu.t.toNat
    (∃ t' : BitVec 15, memWrite 0x2000 v s = { s with ppu := { s.ppu with ctrl := v, t := t' } } ∧
      t'.toNat = t / 4096 * 4096 + v.toNat % 4 * 1024 + t % 1024) ∧
    memWrite 0x2001 v s = { s with ppu := { s.ppu with mask := v } } ∧
    memWrite 0x2003 v s = { s with ppu := { s.ppu with oamaddr := v } } ∧
    memWrite 0x2004 v s = { s with ppu := { s.ppu with
      oam := cellWrite s.ppu.oam s.ppu.oamaddr.toNat v, oamaddr := BitVec.ofNat 8 (s.ppu.oamaddr.toNat + 1) } } ∧
    memRead 0x2004 s = (cellRead s.ppu.oam s.ppu.oamaddr.toNat, s) ∧
    memRead 0x2002 s = (BitVec.ofNat 8 (128 * bitNat s.ppu.vblank + 64 * bitNat s.ppu.sprite0hit + 32 * bitNat s.ppu.overflow),
      { s with ppu := { s.ppu with vblank := false, w := false } }) ∧
    (s.ppu.w = false →
      (∃ t' : BitVec 15, memWrite 0x2005 v s = { s with ppu := { s.ppu with
          t := t', x := BitVec.ofNat 3 (v.toNat % 8), w := true } } ∧
        t'.toNat = t / 32 * 32 + v.toNat / 8) ∧
      (∃ t' : BitVec 15, memWrite 0x2006 v s = { s with ppu := { s.ppu with t := t', w := true } } ∧
        t'.toNat = v.toNat % 64 * 256 + t % 256) ∧
      (∃ t' : BitVec 15, writeMany [(0x2005, x), (0x2005, y)] s = { s with ppu := { s.ppu with
          t := t', x := BitVec.ofNat 3 (x.toNat % 8) } } ∧
        t'.toNat = y.toNat % 8 * 4096 + t / 1024 % 4 * 1024 + y.toNat / 8 * 32 + x.toNat / 8) ∧
      (∃ a : BitVec 15, writeMany [(0x2006, x), (0x2006, y)] s = { s with ppu := { s.ppu with t := a, v := a } } ∧
        a.toNat = x.toNat % 64 * 256 + y.toNat)) ∧
    (s.ppu.w = true →
      (∃ t' : BitVec 15, memWrite 0x2005 v s = { s with ppu := { s.ppu with t := t', w := false } } ∧
        t'.toNat = v.toNat % 8 * 4096 + t / 1024 % 4 * 1024 + v.toNat / 8 * 32 + t % 32) ∧
      (∃ t' : BitVec 15, memWrite 0x2006 v s = { s with ppu := { s.ppu with t := t', v := t', w := false } } ∧
        t'.toNat = t / 256 * 256 + v.toNat))

/-- R628, R629, R631: $2007 reads below $3F00 return the latch and refill it, palette reads return the byte and keep the
latch; writes go straight through; every access adds 1 or 32 to `v` modulo 2^15, rendering or not.
The spec's own marks: decision R628 (D32), R629 (D32), R631 (D32). -/
def Obligations.VideoData : Prop :=
  ∀ (s : State) (d : Byte),
    let a := s.ppu.v.toNat % 0x4000
    let v' := BitVec.ofNat 15 (s.ppu.v.toNat + if s.ppu.ctrl.getLsbD 2 then 32 else 1)
    (a < 0x3F00 → memRead 0x2007 s =
      (s.ppu.buffer, { s with ppu := { s.ppu with buffer := ppuRead s a, v := v' } })) ∧
    (0x3F00 ≤ a → memRead 0x2007 s = (ppuRead s a, { s with ppu := { s.ppu with v := v' } })) ∧
    memWrite 0x2007 d s = { ppuWrite s a d with ppu := { (ppuWrite s a d).ppu with v := v' } }

/-- R640, R641: dots that no colour fault stops walk the frame one position at a time; after exactly 341 x 262 of them the
position is the same again.
The spec's own marks: decision R640 (D34/D35/D36), R641 (D56). -/
def Obligations.FrameGeometry : Prop :=
  ∀ (n : Nat) (s : State), s.onFrame → (afterDots n s).fault = none →
    (afterDots n s).onFrame ∧ (afterDots n s).position = (s.position + n) % 89342

/-- R660, R661, R663, R664: over a dot that no fault stops, the VBlank flag and the NMI flag change only at the VBlank dots: set
at (241, `VBLANK_SET_DOT`), the NMI flag only when `ctrl[7]` is set; the flags cleared at (261, `VBLANK_CLEAR_DOT`). The
sprite-0 hit is taken over from the line's overlap at dot 257 of a visible line, once a frame.
The spec's own marks: decision R660 (D34), R661 (D34), R663 (D38), R664 (D34). -/
def Obligations.VBlankDots : Prop :=
  ∀ s : State, (ppuDot s).fault = none →
    let start := s.ppu.scanline = 241 ∧ s.ppu.dot = s.params.vblankSetDot
    let stop := s.ppu.scanline = 261 ∧ s.ppu.dot = s.params.vblankClearDot
    let final := s.ppu.scanline ≤ 239 ∧ s.ppu.dot = 257
    (start → (ppuDot s).ppu.vblank = true ∧
      (ppuDot s).ppu.nmiPending = (s.ppu.nmiPending || s.ppu.ctrl.getLsbD 7)) ∧
    (stop → (ppuDot s).ppu.vblank = false ∧ (ppuDot s).ppu.sprite0hit = false ∧ (ppuDot s).ppu.overflow = false ∧
      (ppuDot s).ppu.s0latched = false ∧ (ppuDot s).ppu.s0line = false) ∧
    (¬ start → (ppuDot s).ppu.nmiPending = s.ppu.nmiPending ∧ (¬ stop → (ppuDot s).ppu.vblank = s.ppu.vblank)) ∧
    (final → (ppuDot s).ppu.sprite0hit = (s.ppu.sprite0hit || (s.ppu.s0line && !s.ppu.s0latched)) ∧
      (ppuDot s).ppu.s0latched = (s.ppu.s0latched || s.ppu.s0line) ∧ (ppuDot s).ppu.s0line = false) ∧
    (¬ final → ¬ stop →
      (ppuDot s).ppu.sprite0hit = s.ppu.sprite0hit ∧ (ppuDot s).ppu.s0latched = s.ppu.s0latched)

/-- R643, R644, R645, R642: over a dot that no fault stops, with rendering on, `v` changes only by the Y increment at dot 256,
the horizontal copy at dot 257 (lines 0-239 and 261) and the vertical copy at dots 280-304 of line 261; with rendering off
it does not change.
The spec's own marks: general knowledge R643 to R645; derived R642; decision R643 (D35), R645 (D35). -/
def Obligations.ScrollDots : Prop :=
  ∀ s : State, (ppuDot s).fault = none →
    let on := s.ppu.mask.getLsbD 3 = true ∨ s.ppu.mask.getLsbD 4 = true
    let line := s.ppu.scanline ≤ 239 ∨ s.ppu.scanline = 261
    let v := s.ppu.v.toNat
    let t := s.ppu.t.toNat
    let v' := (ppuDot s).ppu.v.toNat
    (on → line → s.ppu.dot = 256 → v' =
      if v / 4096 < 7 then v + 4096
      else if v / 32 % 32 = 29 then v % 1024 - v / 32 % 32 * 32 + v / 1024 % 2 * 1024 + (1 - v / 2048 % 2) * 2048
      else if v / 32 % 32 = 31 then v % 4096 - 31 * 32
      else v % 4096 + 32) ∧
    (on → line → s.ppu.dot = 257 → v' = v / 2048 * 2048 + t / 1024 % 2 * 1024 + v / 32 % 32 * 32 + t % 32) ∧
    (on → s.ppu.scanline = 261 → 280 ≤ s.ppu.dot → s.ppu.dot ≤ 304 →
      v' = t / 2048 * 2048 + v / 1024 % 2 * 1024 + t / 32 % 32 * 32 + v % 32) ∧
    (¬ on ∨ ¬ line ∨ (s.ppu.dot ≠ 256 ∧ s.ppu.dot ≠ 257 ∧
      ¬ (s.ppu.scanline = 261 ∧ 280 ≤ s.ppu.dot ∧ s.ppu.dot ≤ 304)) → v' = v)

/-- R650: with rendering on, a line's list is the first eight OAM entries, in OAM order, whose rows cover the line, and a
ninth sets the overflow flag, which evaluation never clears; with rendering off the list is empty. R614, R651, R652: a
sprite's colour at a dot of a line its rows cover, from its OAM entry, the size, both flips and the two plane bytes; 0
outside its eight columns. R653: the first sprite of the list with a colour supplies the pixel, its palette and its
priority, unless sprites are hidden or clipped.
The spec's own marks: general knowledge R614, R651 to R653; decision R650 (D36). -/
def Obligations.SpriteEvaluation : Prop :=
  ∀ (s : State) (i l d : Nat),
    let p := s.ppu
    let on := p.mask.getLsbD 3 = true ∨ p.mask.getLsbD 4 = true
    let h := if p.ctrl.getLsbD 5 = true then 16 else 8
    let hits := (List.range 64).filter fun i =>
      decide ((cellRead p.oam (4 * i)).toNat ≤ l ∧ l < (cellRead p.oam (4 * i)).toNat + h)
    let y := (cellRead p.oam (4 * i)).toNat
    let tile := (cellRead p.oam (4 * i + 1)).toNat
    let attr := fun i : Nat => (cellRead p.oam (4 * i + 2)).toNat
    let x := (cellRead p.oam (4 * i + 3)).toNat
    let shown := p.mask.getLsbD 4 = true ∧ (8 ≤ d ∨ p.mask.getLsbD 2 = true)
    (on → evaluateSprites p l =
      { p with lineSprites := hits.take 8, overflow := p.overflow || decide (9 ≤ hits.length) }) ∧
    (¬ on → evaluateSprites p l = { p with lineSprites := [] }) ∧
    (d < x ∨ x + 8 ≤ d → spriteColour s i l d = 0) ∧
    (x ≤ d → d < x + 8 → y ≤ l → l < y + h →
      let row := if attr i / 128 % 2 = 1 then h - 1 - (l - y) else l - y
      let base := if h = 16 then tile % 2 * 0x1000 else if p.ctrl.getLsbD 3 = true then 0x1000 else 0
      let number := if h = 16 then tile / 2 * 2 + row / 8 else tile
      let addr := base + 16 * number + row % 8
      let bit := if attr i / 64 % 2 = 1 then d - x else 7 - (d - x)
      spriteColour s i l d =
        (ppuRead s addr).toNat / 2 ^ bit % 2 + 2 * ((ppuRead s (addr + 8)).toNat / 2 ^ bit % 2)) ∧
    (¬ shown → (spritePixel s l d).1 = 0) ∧
    (shown → (∀ j ∈ p.lineSprites, spriteColour s j l d = 0) → (spritePixel s l d).1 = 0) ∧
    (shown → ∀ before rest : List Nat, p.lineSprites = before ++ i :: rest →
      (∀ j ∈ before, spriteColour s j l d = 0) → spriteColour s i l d ≠ 0 →
      spritePixel s l d = (spriteColour s i l d, attr i % 4, decide (attr i / 32 % 2 = 1)))

/-- R655, R614, R615: the background's palette and colour at a dot, from `v`, fine X, the nametable and attribute bytes and the
two plane bytes; none when hidden or clipped. R640, R662, R666, R667, R504: at a visible dot, after the evaluation at dot 0,
the pixel is the palette entry the multiplexer selects from the background's and the sprite's colours (`PAL[0]` when both
are 0, as with rendering off), grey under mask bit 0; a palette byte of $40 or more raises InvalidColorIndex there, writes
no pixel and leaves the position; an overlap of sprite 0 with the background is recorded.
The spec's own marks: general knowledge R614, R615, R655, R666; decision R504 (D29), R640 (D34/D35/D36), R655 (D37),
R662 (D38), R666 (D33/D37/D39), R667 (D37). -/
def Obligations.BackdropAndColourFault : Prop :=
  ∀ s : State,
    (∀ d : Nat,
      let v := s.ppu.v.toNat
      let visible := s.ppu.mask.getLsbD 3 = true ∧ (8 ≤ d ∨ s.ppu.mask.getLsbD 1 = true)
      let column := v % 32 + (s.ppu.x.toNat + d) / 8
      let page := 0x2000 + v / 2048 % 2 * 0x800 + (v / 1024 + column / 32) % 2 * 0x400
      let cx := column % 32
      let cy := v / 32 % 32
      let tile := (ppuRead s (page + 32 * cy + cx)).toNat
      let attr := (ppuRead s (page + 0x3C0 + 8 * (cy / 4) + cx / 4)).toNat
      let addr := (if s.ppu.ctrl.getLsbD 4 = true then 0x1000 else 0) + 16 * tile + v / 4096
      let bit := 7 - (s.ppu.x.toNat + d) % 8
      (¬ visible → bgColour s d = (0, 0)) ∧
      (visible → bgColour s d = (attr / 2 ^ (cy / 2 % 2 * 4 + cx / 2 % 2 * 2) % 4,
        (ppuRead s addr).toNat / 2 ^ bit % 2 + 2 * ((ppuRead s (addr + 8)).toNat / 2 ^ bit % 2)))) ∧
    (s.fault = none → s.ppu.scanline ≤ 239 → s.ppu.dot ≤ 255 →
      let l := s.ppu.scanline
      let d := s.ppu.dot
      let s' : State := if d = 0 then { s with ppu := evaluateSprites s.ppu l } else s
      let bg := bgColour s' d
      let sp := spritePixel s' l d
      let e := if bg.2 = 0 ∧ sp.1 = 0 then 0
        else if bg.2 = 0 ∨ (sp.1 ≠ 0 ∧ sp.2.2 = false) then 16 + 4 * sp.2.1 + sp.1 else 4 * bg.1 + bg.2
      let k := cellRead s.ppu.pal e
      let shown := s.ppu.mask.getLsbD 4 = true ∧ (8 ≤ d ∨ s.ppu.mask.getLsbD 2 = true)
      (s.ppu.mask.getLsbD 3 = false → s.ppu.mask.getLsbD 4 = false → k = cellRead s.ppu.pal 0) ∧
      (64 ≤ k.toNat → (ppuDot s).fault = some (.invalidColorIndex k l d) ∧
        (ppuDot s).ppu.fb = s.ppu.fb ∧ (ppuDot s).position = s.position) ∧
      (k.toNat < 64 → (ppuDot s).fault = none ∧
        (∀ n, cellRead (ppuDot s).ppu.fb n =
          if n = 256 * l + d then BitVec.ofNat 6 (if s.ppu.mask.getLsbD 0 = true then k.toNat / 16 * 16 else k.toNat)
          else cellRead s.ppu.fb n) ∧
        (ppuDot s).ppu.s0line = (s.ppu.s0line ||
          decide (s'.ppu.lineSprites.head? = some 0 ∧ shown ∧ spriteColour s' 0 l d ≠ 0 ∧ bg.2 ≠ 0))))

/-! ## OAM DMA, joypad, APU (63_io_joypad_dma.md, 62_apu.md) -/

/-- R810, R811: a write of $4014 copies 256 bytes, each read through the CPU decoder in order with its side effects, to OAM
from `oamaddr` on modulo 256, and stalls `OAM_DMA_CYCLES`; from a page without ports nothing else changes. That the write
itself counts the stall, which R267 adds to the instruction's cycles, is the model's choice (DEDUCED, log entry 9).
The spec's own marks: general knowledge R267, R810; derived R811; decision R267 (D24), R810 (D40), R811 (D40). -/
def Obligations.OamDma : Prop :=
  ∀ (s : State) (page : Byte),
    (∃ d : Nat → State, d 0 = s ∧
      (∀ i, i < 256 → d (i + 1) =
        let r := memRead (BitVec.ofNat 16 (256 * page.toNat + i)) (d i)
        { r.2 with ppu := { r.2.ppu with oam := cellWrite r.2.ppu.oam ((s.ppu.oamaddr.toNat + i) % 256) r.1 } }) ∧
      memWrite 0x4014 page s = { d 256 with cycles := s.cycles + s.params.oamDmaCycles }) ∧
    (page.toNat < 0x20 ∨ 0x41 ≤ page.toNat →
      memWrite 0x4014 page s = { s with
        cycles := s.cycles + s.params.oamDmaCycles
        ppu := { s.ppu with oam := (memWrite 0x4014 page s).ppu.oam } } ∧
      ∀ i, i < 256 → cellRead (memWrite 0x4014 page s).ppu.oam ((s.ppu.oamaddr.toNat + i) % 256) =
        peek s (BitVec.ofNat 16 (256 * page.toNat + i)))

/-- R801, R802: after a strobe (a write with bit 0 set, then one with it clear) the reads of $4016 give the eight buttons in
order, A first, and then 0; while the strobe is set every read gives button A.
The spec's own marks: decision R801 (D42), R802 (D42). -/
def Obligations.JoypadSerial : Prop :=
  ∀ (s : State) (v1 v0 : Byte) (n : Nat), v1.toNat % 2 = 1 → v0.toNat % 2 = 0 →
    readMany 0x4016 n (writeMany [(0x4016, v1), (0x4016, v0)] s) =
      (List.range n).map (fun k => BitVec.ofNat 8 (if k < 8 then s.pad.buttons.toNat / 2 ^ k % 2 else 0)) ∧
    readMany 0x4016 n (memWrite 0x4016 v1 s) = List.replicate n (BitVec.ofNat 8 (s.pad.buttons.toNat % 2))

/-- R710 to R719, R725: what a write of each APU register $4000-$400F does: the channel's fields take the value's bits; $4003,
$4007, $400B and $400F load the length of an enabled channel from the table and set the restart flags. R722: $4017 sets
the mode and the inhibit, clears the IRQ flag under bit 6, restarts the sequence and under bit 7 clocks a quarter and a
half frame (R736, R737) at once. R720, R721: a write of $4015 enables the channels by its low bits and empties the length
of each one disabled; a read reports which lengths are not 0 and the frame IRQ flag, and clears that flag alone.
The spec's own marks: general knowledge R710 to R722, R725, R736, R737; decision R720 (D45), R721 (D45), R722 (D45),
R737 (D46). -/
def Obligations.ApuStatus : Prop :=
  ∀ (s : State) (v : Byte),
    let a := s.apu
    let on := fun k : Nat => decide (v.toNat / 2 ^ k % 2 = 1)
    let keep := fun (k : Nat) (n : BitVec 8) => if v.toNat / 2 ^ k % 2 = 1 then n else 0
    let table : List Nat := [10, 254, 20, 2, 40, 4, 80, 6, 160, 8, 60, 10, 14, 12, 26, 14] ++
      [12, 16, 24, 18, 48, 20, 96, 22, 192, 24, 72, 26, 16, 28, 32, 30]
    let load := fun (enabled : Bool) (n : BitVec 8) =>
      if enabled = true then BitVec.ofNat 8 (table.getD (v.toNat / 8) 0) else n
    let low := fun p : BitVec 11 => BitVec.ofNat 11 (p.toNat / 256 * 256 + v.toNat)
    let high := fun p : BitVec 11 => BitVec.ofNat 11 (v.toNat % 8 * 256 + p.toNat % 256)
    let duty := fun c : Pulse => { c with
      duty := BitVec.ofNat 2 (v.toNat / 64), halt := on 5, constVol := on 4, vol := BitVec.ofNat 4 (v.toNat % 16) }
    let sweep := fun c : Pulse => { c with
      sweepEn := on 7, sweepPeriod := BitVec.ofNat 3 (v.toNat / 16 % 8), sweepNeg := on 3,
      sweepShift := BitVec.ofNat 3 (v.toNat % 8), sweepReload := true }
    let start := fun c : Pulse => { c with
      period := high c.period, length := load c.enabled c.length, seq := 0, env := { c.env with start := true } }
    let pulse1 := fun c : Pulse => ({ s with apu := { a with pulse1 := c } } : State)
    let pulse2 := fun c : Pulse => ({ s with apu := { a with pulse2 := c } } : State)
    let tri := fun c : Triangle => ({ s with apu := { a with tri := c } } : State)
    let noise := fun c : Noise => ({ s with apu := { a with noise := c } } : State)
    let restarted := { a with mode5 := on 7, irqInhibit := on 6, frameCycles := 0,
                              frameIrq := if v.toNat / 64 % 2 = 1 then false else a.frameIrq }
    let clocked := fun (halt : Bool) (n : BitVec 8) => if halt = true then n.toNat else n.toNat - 1
    let t := (memWrite 0x4017 v s).apu
    (memWrite 0x4000 v s = pulse1 (duty a.pulse1) ∧ memWrite 0x4004 v s = pulse2 (duty a.pulse2)) ∧
    (memWrite 0x4001 v s = pulse1 (sweep a.pulse1) ∧ memWrite 0x4005 v s = pulse2 (sweep a.pulse2)) ∧
    (memWrite 0x4002 v s = pulse1 { a.pulse1 with period := low a.pulse1.period } ∧
      memWrite 0x4006 v s = pulse2 { a.pulse2 with period := low a.pulse2.period }) ∧
    (memWrite 0x4003 v s = pulse1 (start a.pulse1) ∧ memWrite 0x4007 v s = pulse2 (start a.pulse2)) ∧
    memWrite 0x4008 v s = tri { a.tri with control := on 7, linReload := BitVec.ofNat 7 (v.toNat % 128) } ∧
    memWrite 0x400A v s = tri { a.tri with period := low a.tri.period } ∧
    memWrite 0x400B v s = tri { a.tri with
      period := high a.tri.period, length := load a.tri.enabled a.tri.length, linReloadFlag := true } ∧
    memWrite 0x400C v s = noise { a.noise with
      halt := on 5, constVol := on 4, vol := BitVec.ofNat 4 (v.toNat % 16) } ∧
    memWrite 0x400E v s = noise { a.noise with mode := on 7, periodIndex := BitVec.ofNat 4 (v.toNat % 16) } ∧
    memWrite 0x400F v s = noise { a.noise with
      length := load a.noise.enabled a.noise.length, env := { a.noise.env with start := true } } ∧
    memWrite 0x4017 v s =
      { s with apu := if v.toNat < 128 then restarted else halfFrame (quarterFrame restarted) } ∧
    (128 ≤ v.toNat → t.pulse1.length.toNat = clocked a.pulse1.halt a.pulse1.length ∧
      t.pulse2.length.toNat = clocked a.pulse2.halt a.pulse2.length ∧
      t.tri.length.toNat = clocked a.tri.control a.tri.length ∧
      t.noise.length.toNat = clocked a.noise.halt a.noise.length) ∧
    memWrite 0x4015 v s = { s with apu := { a with
      pulse1 := { a.pulse1 with enabled := on 0, length := keep 0 a.pulse1.length }
      pulse2 := { a.pulse2 with enabled := on 1, length := keep 1 a.pulse2.length }
      tri := { a.tri with enabled := on 2, length := keep 2 a.tri.length }
      noise := { a.noise with enabled := on 3, length := keep 3 a.noise.length } } } ∧
    (memRead 0x4015 s).1 = BitVec.ofNat 8 (bitNat (decide (0 < a.pulse1.length.toNat)) +
      2 * bitNat (decide (0 < a.pulse2.length.toNat)) + 4 * bitNat (decide (0 < a.tri.length.toNat)) +
      8 * bitNat (decide (0 < a.noise.length.toNat)) + 64 * bitNat a.frameIrq) ∧
    (memRead 0x4015 s).2 = { s with apu := { a with frameIrq := false } }

/-- R736: a quarter frame clocks the envelopes of both pulses and the noise and the triangle's linear counter. R737: a half
frame clocks the four lengths and the two sweeps, pulse 1's with one's complement. R735, R737, R738: from `frameCycles` 0,
one full frame-sequencer cycle takes 2 from the length of each of the four channels that is not halted (down to 0 at the
least) and leaves a halted one: 29828 ticks in 4-step mode, where the frame IRQ flag is then set unless inhibited, and
37285 in 5-step mode, where the flag stays.
The spec's own marks: general knowledge R735 to R737; derived R738; decision R735 (D45), R737 (D46). -/
def Obligations.LengthPerHalfFrame : Prop :=
  ∀ (params : Params) (a : Apu),
    let envelope := fun (halt : Bool) (vol : BitVec 4) (e : Envelope) =>
      if e.start = true then ({ start := false, div := vol, decay := 15 } : Envelope)
      else if 0 < e.div.toNat then { e with div := BitVec.ofNat 4 (e.div.toNat - 1) }
      else { e with
        div := vol
        decay := if 0 < e.decay.toNat then BitVec.ofNat 4 (e.decay.toNat - 1) else if halt = true then 15 else 0 }
    let shorter := fun (halt : Bool) (n : BitVec 8) => if halt = true then n else BitVec.ofNat 8 (n.toNat - 1)
    let sweep := fun (ones : Nat) (c : Pulse) =>
      let change := c.period.toNat / 2 ^ c.sweepShift.toNat
      let target : Int := if c.sweepNeg = true then (c.period.toNat : Int) - change - ones else c.period.toNat + change
      { c with
        length := shorter c.halt c.length
        period := if c.sweepDiv = 0 ∧ c.sweepEn = true ∧ c.sweepShift ≠ 0 ∧ 0 ≤ target ∧ target ≤ 0x7FF
          then BitVec.ofInt 11 target else c.period
        sweepDiv := if c.sweepDiv = 0 ∨ c.sweepReload = true then c.sweepPeriod else BitVec.ofNat 3 (c.sweepDiv.toNat - 1)
        sweepReload := false }
    quarterFrame a = { a with
      pulse1 := { a.pulse1 with env := envelope a.pulse1.halt a.pulse1.vol a.pulse1.env }
      pulse2 := { a.pulse2 with env := envelope a.pulse2.halt a.pulse2.vol a.pulse2.env }
      noise := { a.noise with env := envelope a.noise.halt a.noise.vol a.noise.env }
      tri := { a.tri with
        linCounter := if a.tri.linReloadFlag = true then a.tri.linReload else BitVec.ofNat 7 (a.tri.linCounter.toNat - 1)
        linReloadFlag := a.tri.linReloadFlag && a.tri.control } } ∧
    halfFrame a = { a with
      pulse1 := sweep 1 a.pulse1
      pulse2 := sweep 0 a.pulse2
      noise := { a.noise with length := shorter a.noise.halt a.noise.length }
      tri := { a.tri with length := shorter a.tri.control a.tri.length } } ∧
    (a.frameCycles = 0 →
      let clocked := fun (halt : Bool) (n : BitVec 8) => if halt = true then n.toNat else n.toNat - 2
      let lengths := fun t : Apu =>
        t.pulse1.length.toNat = clocked a.pulse1.halt a.pulse1.length ∧
        t.pulse2.length.toNat = clocked a.pulse2.halt a.pulse2.length ∧
        t.tri.length.toNat = clocked a.tri.control a.tri.length ∧
        t.noise.length.toNat = clocked a.noise.halt a.noise.length
      (a.mode5 = false → lengths (afterTicks params 29828 a) ∧
        (afterTicks params 29828 a).frameIrq = (a.frameIrq || !a.irqInhibit)) ∧
      (a.mode5 = true → lengths (afterTicks params 37285 a) ∧
        (afterTicks params 37285 a).frameIrq = a.frameIrq))

/-- R701, R731, R732, R733, R735, R745, R726, R727, R750: one tick. The triangle's timer and, at even ticks, the pulses' and the
noise's step their sequencers and the shift register; the frame sequencer clocks quarter and half frames and raises the
IRQ flag by the step table; at a sampling tick MIX of the four amplitudes, as given, is appended (MIX is open, R746: log entry
4; a noise period of 0 or missing from the table is the model's choice, log entry 17). R750: `n` ticks append one sample
for every `SAMPLE_PERIOD` of them, counted from the sample counter, and keep the samples already there.
The spec's own marks: general knowledge R726, R731 to R733, R735, R745, R746; decision R701 (D50), R733 (D44), R735
(D45), R745 (D46), R746 (D47), R750 (D48). -/
def Obligations.SampleRate : Prop :=
  ∀ (params : Params) (n : Nat) (a : Apu),
    let pulse := fun c : Pulse =>
      if a.cycles % 2 = 1 then c
      else if c.timer = 0 then { c with timer := c.period, seq := BitVec.ofNat 3 (c.seq.toNat + 1) }
      else { c with timer := BitVec.ofNat 11 (c.timer.toNat - 1) }
    let tri := fun c : Triangle =>
      if c.timer = 0 then { c with
        timer := c.period
        seq := if 0 < c.length.toNat ∧ 0 < c.linCounter.toNat then BitVec.ofNat 5 (c.seq.toNat + 1) else c.seq }
      else { c with timer := BitVec.ofNat 11 (c.timer.toNat - 1) }
    let noise := fun c : Noise =>
      if a.cycles % 2 = 1 then c
      else if c.timer = 0 then { c with
        timer := BitVec.ofNat 12 (params.noisePeriods.getD c.periodIndex.toNat 0 + 4095)
        lfsr := BitVec.ofNat 15 (c.lfsr.toNat / 2 +
          16384 * ((c.lfsr.toNat % 2 + c.lfsr.toNat / (if c.mode = true then 64 else 2) % 2) % 2)) }
      else { c with timer := BitVec.ofNat 12 (c.timer.toNat - 1) }
    let f := a.frameCycles + 1
    let last := if a.mode5 = true then 5 else 4
    let step := (f / 7457 - 1) % last + 1
    let half := f % 7457 = 0 ∧ (step = 2 ∨ step = last)
    let quarter := half ∨ (f % 7457 = 0 ∧ (step = 1 ∨ step = 3))
    let irq := f % 7457 = 0 ∧ step = 4 ∧ a.mode5 = false ∧ a.irqInhibit = false
    let timed := { a with
      pulse1 := pulse a.pulse1, pulse2 := pulse a.pulse2, tri := tri a.tri, noise := noise a.noise, frameCycles := f }
    let clocked := if quarter then quarterFrame timed else timed
    let t := if half then halfFrame clocked else clocked
    let volume := fun (constVol : Bool) (vol : BitVec 4) (e : Envelope) => if constVol = true then vol else e.decay
    let duty : List (List Nat) :=
      [[0, 1, 0, 0, 0, 0, 0, 0], [0, 1, 1, 0, 0, 0, 0, 0], [0, 1, 1, 1, 1, 0, 0, 0], [1, 0, 0, 1, 1, 1, 1, 1]]
    let muted := fun c : Pulse => params.pulseSweepMute = true ∧ (c.period.toNat < 8 ∨
      (c.sweepNeg = false ∧ 0x7FF < c.period.toNat + c.period.toNat / 2 ^ c.sweepShift.toNat))
    let pulseOut := fun c : Pulse =>
      if c.enabled = false ∨ c.length = 0 ∨ (duty.getD c.duty.toNat []).getD c.seq.toNat 0 = 0 ∨ muted c then 0
      else volume c.constVol c.vol c.env
    let triOut := if t.tri.enabled = false ∨ t.tri.length = 0 then 0
      else BitVec.ofNat 4 (if t.tri.seq.toNat < 16 then 15 - t.tri.seq.toNat else t.tri.seq.toNat - 16)
    let noiseOut := if t.noise.enabled = false ∨ t.noise.length = 0 ∨ t.noise.lfsr.toNat % 2 = 1 then 0
      else volume t.noise.constVol t.noise.vol t.noise.env
    apuTickOf params a = { t with
      frameIrq := a.frameIrq || decide irq
      cycles := a.cycles + 1
      sampleCounter := if a.sampleCounter + 1 = params.samplePeriod then 0 else a.sampleCounter + 1
      samples := if a.sampleCounter + 1 = params.samplePeriod
        then a.samples ++ [Config.mix (pulseOut t.pulse1) (pulseOut t.pulse2) triOut noiseOut] else a.samples } ∧
    (a.sampleCounter < params.samplePeriod →
      ∃ fresh : List Byte, (afterTicks params n a).samples = a.samples ++ fresh ∧
        fresh.length = (a.sampleCounter + n) / params.samplePeriod ∧
        (afterTicks params n a).sampleCounter = (a.sampleCounter + n) % params.samplePeriod)

/-! ## Reset (70_reset_and_hazards.md, 60_exceptions.md R506) -/

/-- R900, R901, R903, R506: for all parameters, cartridges and draws: a bad cartridge is a LoadError and no step runs (with
both defects, which one is named is the model's choice, log entry 7); otherwise the registers, flags and memories hold
their draws, I is 1, `PC` and `LastPC` are the word at $FFFC of the last PRG bank, the reset cycles are counted, and (R48
to R58) the mapper, PPU, APU and joypad registers are at their reset values: all of them before the reset cycles' dots and
ticks (`RESET_CYCLES` 0), and after those of the default 7 but for the dot, the first 21 pixels, the pulse sequencers, the
noise timer and shift register and the counters, which those dots and ticks have moved (R640, R701, R731, R733).
The spec's own marks: general knowledge R48, R49, R53 to R55, R731, R733, R900; decision R48 (D52), R49 (D31/D52), R50
(D53), R51 (D52), R52 (D39), R53 (D52), R54 (D52), R55 (D52), R56 (D52), R57 (D48), R58 (D42), R506 (D16), R640
(D34/D35/D36), R701 (D50), R733 (D44), R900 (D5/D6/D7), R901 (D5/D52/D53), R903 (D19). -/
def Obligations.PowerOn : Prop :=
  ∀ (p : Params) (c : Cartridge) (d : Draws),
    let s := powerOn p c d
    (4 ≤ c.mapperId.toNat → 0 < c.nPrg → s.fault = some (.loadError (.unsupportedMapper c.mapperId))) ∧
    (c.mapperId.toNat < 4 → c.nPrg = 0 → s.fault = some (.loadError .noPrg)) ∧
    (4 ≤ c.mapperId.toNat ∨ c.nPrg = 0 → ∃ r, step s = .fault (.loadError r)) ∧
    (c.mapperId.toNat < 4 → 0 < c.nPrg →
      let env : Envelope := { start := false, div := 0, decay := 0 }
      let pulse : BitVec 3 → Pulse := fun seq =>
        { enabled := false, duty := 0, halt := false, constVol := false, vol := 0, sweepEn := false, sweepPeriod := 0,
          sweepNeg := false, sweepShift := 0, sweepReload := false, sweepDiv := 0, period := 0, timer := 0, seq := seq,
          length := 0, env := env }
      let tri : Triangle :=
        { enabled := false, control := false, linReload := 0, linCounter := 0, linReloadFlag := false, period := 0,
          timer := 0, seq := 0, length := 0 }
      let noise : BitVec 12 → BitVec 15 → Noise := fun timer lfsr =>
        { enabled := false, halt := false, constVol := false, vol := 0, mode := false, periodIndex := 0, timer := timer,
          lfsr := lfsr, length := 0, env := env }
      let ppu : Nat → Memory → Cells 6 → Ppu := fun dot pal fb =>
        { ctrl := 0, mask := 0, vblank := false, sprite0hit := false, overflow := false, oamaddr := 0, v := 0, t := 0,
          x := 0, w := false, buffer := 0, nt := d.nt, pal := pal, oam := d.oam, scanline := 0, dot := dot,
          nmiPending := false, s0latched := false, s0line := false, lineSprites := [], fb := fb }
      let vector := wordOf (prgByte c (c.nPrg - 1) 0x3FFC) (prgByte c (c.nPrg - 1) 0x3FFD)
      (s.cpu.a = d.a ∧ s.cpu.x = d.x ∧ s.cpu.y = d.y ∧ s.cpu.s = d.s ∧ s.cpu.pc = vector ∧ s.cpu.lastPC = vector) ∧
      s.cpu.p = { n := d.n, v := d.v, b := d.b, d := d.d, i := true, z := d.z, c := d.c } ∧
      s.cycles = p.resetCycles ∧ s.ram = d.ram ∧ s.chrRam = d.chrRam ∧ s.ppu.nt = d.nt ∧ s.ppu.oam = d.oam ∧
      (∀ k, (cellRead s.ppu.pal k).toNat = (cellRead d.pal k).toNat) ∧
      s.pad = { buttons := 0, pos := 0, strobe := false } ∧
      (c.mapperId.toNat = 0 → s.mapper = .nrom) ∧ (c.mapperId.toNat = 2 → s.mapper = .unrom 0) ∧
      (c.mapperId.toNat = 3 → s.mapper = .cnrom 0) ∧
      (c.mapperId.toNat = 1 →
        s.mapper = .mmc1 { shift := 0, count := 0, control := 0x0C, chr0 := 0, chr1 := 0, prg := 0 }) ∧
      (p.resetCycles = 0 → s.fault = none ∧ s.ppu = ppu 0 s.ppu.pal d.fb ∧
        s.apu =
          { pulse1 := pulse 0, pulse2 := pulse 0, tri := tri, noise := noise 0 1, mode5 := false, irqInhibit := false,
            frameIrq := false, frameCycles := 0, cycles := 0, sampleCounter := 0, samples := [] }) ∧
      (p.resetCycles = 7 → s.fault = none ∧ s.ppu = ppu 21 s.ppu.pal s.ppu.fb ∧
        (∀ n, cellRead s.ppu.fb n = if n < 21 then cellRead d.pal 0 else cellRead d.fb n) ∧
        s.apu =
          { pulse1 := pulse 4, pulse2 := pulse 4, tri := tri, noise := noise s.apu.noise.timer s.apu.noise.lfsr,
            mode5 := false, irqInhibit := false, frameIrq := false, frameCycles := 7, cycles := 7,
            sampleCounter := s.apu.sampleCounter, samples := s.apu.samples } ∧
        (7 < p.samplePeriod → s.apu.sampleCounter = 7 ∧ s.apu.samples = []) ∧
        (p.noisePeriods.head? = some 2 → s.apu.noise.timer = 0 ∧ s.apu.noise.lfsr = 0x2000)))
end

