-- ==== Sys2Proof/Laws/Bits.lean ====
section
/-! SUPPORT. What the bit-field operations read and write, bit by bit and as numbers. -/

namespace Sys2Proof.Machine

variable {w len : Nat}

theorem getField_toNat (v : BitVec w) (lo len : Nat) : (getField v lo len).toNat = v.toNat / 2 ^ lo % 2 ^ len := by
  simp [getField, Nat.shiftRight_eq_div_pow]

theorem getLsbD_getField (v : BitVec w) (lo len i : Nat) :
    (getField v lo len).getLsbD i = (decide (i < len) && v.getLsbD (lo + i)) := by
  simp [getField]

/-- The field is replaced, every other bit stays. -/
theorem getLsbD_setField (v : BitVec w) (lo : Nat) (f : BitVec len) (i : Nat) :
    (setField v lo f).getLsbD i =
      if lo ≤ i ∧ i < lo + len then decide (i < w) && f.getLsbD (i - lo) else v.getLsbD i := by
  unfold setField
  by_cases hw : i < w
  · by_cases h : lo ≤ i
    · by_cases h' : i < lo + len
      · have : i - lo < len := by omega
        have : i - lo < w := by omega
        have : ¬ i < lo := by omega
        simp [*]
      · have : ¬ i - lo < len := by omega
        have : ¬ i < lo := by omega
        have := f.getLsbD_of_ge (i - lo) (by omega)
        simp [*]
    · have : i < lo := by omega
      simp [*]
  · have := v.getLsbD_of_ge i (by omega)
    simp [*]

/-- A field write as arithmetic, when the field lies inside the vector. -/
theorem setField_toNat (v : BitVec w) (lo : Nat) (f : BitVec len) (h : lo + len ≤ w) :
    (setField v lo f).toNat =
      v.toNat / 2 ^ (lo + len) * 2 ^ (lo + len) + f.toNat * 2 ^ lo + v.toNat % 2 ^ lo := by
  have hf := f.isLt
  have hr : v.toNat % 2 ^ lo < 2 ^ lo := Nat.mod_lt _ (Nat.two_pow_pos lo)
  have hm : f.toNat * 2 ^ lo + v.toNat % 2 ^ lo < 2 ^ (lo + len) := by
    have : (f.toNat + 1) * 2 ^ lo ≤ 2 ^ len * 2 ^ lo := Nat.mul_le_mul_right _ hf
    rw [Nat.pow_add, Nat.mul_comm (2 ^ lo)]; linarith
  apply Nat.eq_of_testBit_eq
  intro i
  rw [BitVec.testBit_toNat, getLsbD_setField, Nat.add_assoc, Nat.mul_comm (v.toNat / 2 ^ (lo + len)),
    Nat.testBit_two_pow_mul_add _ hm, Nat.mul_comm f.toNat, Nat.testBit_two_pow_mul_add _ hr]
  by_cases h1 : lo ≤ i
  · by_cases h2 : i < lo + len
    · have : i < w := by omega
      simp [*, BitVec.testBit_toNat]
    · have h3 : lo + len + (i - (lo + len)) = i := by omega
      simp [h1, h2, h3, ← Nat.shiftRight_eq_div_pow, BitVec.testBit_toNat]
  · have h2 : i < lo + len := by omega
    have h3 : i < lo := by omega
    simp [h1, h2, h3, BitVec.testBit_toNat]

/-- A bit as a digit of the number. -/
theorem getBit_eq_div_mod {w : Nat} (v : BitVec w) (i : Nat) : getBit v i = decide (v.toNat / 2 ^ i % 2 = 1) := by
  simp [getBit, BitVec.getLsbD, Nat.testBit_eq_decide_div_mod_eq]

/-- A decrement that does not wrap, as a number. -/
theorem sub_one_eq_ofNat {w : Nat} (v : BitVec w) (h : v ≠ 0) : v - 1 = BitVec.ofNat w (v.toNat - 1) := by
  have : v.toNat ≠ 0 := fun e => h (BitVec.eq_of_toNat_eq (by simpa using e))
  have := v.isLt
  have hw : w ≠ 0 := by rintro rfl; omega
  apply BitVec.eq_of_toNat_eq
  have h1 : 1 % 2 ^ w = 1 := Nat.mod_eq_of_lt (Nat.one_lt_two_pow hw)
  simp [BitVec.toNat_sub, h1]
  rw [Nat.mod_eq_of_lt (show v.toNat - 1 < 2 ^ w by omega), show 2 ^ w - 1 + v.toNat = (v.toNat - 1) + 2 ^ w by omega,
    Nat.add_mod_right, Nat.mod_eq_of_lt (by omega)]

end Sys2Proof.Machine
end

