-- ==== Sys2Proof/Laws/Memory.lean ====
section
/-! SUPPORT. The laws of a sparse memory: read after write, and the canonical form. -/

namespace Sys2Proof.Machine

variable {w : Nat}

theorem cellRead_erase_same (m : Cells w) (a : Nat) : cellRead (cellErase m a) a = unlistedCell w := by
  induction m with
  | nil => rfl
  | cons e m ih =>
    obtain ⟨k, v⟩ := e
    by_cases h : k = a
    · simpa [cellErase, h] using ih
    · simpa [cellErase, cellRead, h] using ih

theorem cellRead_erase_other (m : Cells w) {a b : Nat} (hab : b ≠ a) : cellRead (cellErase m a) b = cellRead m b := by
  induction m with
  | nil => rfl
  | cons e m ih =>
    obtain ⟨k, v⟩ := e
    by_cases h : k = a
    · subst h; simpa [cellErase, cellRead, hab.symm] using ih
    · simp [cellErase, cellRead, h, ih]

theorem cellRead_insert_other (m : Cells w) {a b : Nat} (v : BitVec w) (hab : b ≠ a) :
    cellRead (cellInsert m a v) b = cellRead m b := by
  induction m with
  | nil => simp [cellInsert, cellRead, hab.symm]
  | cons e m ih =>
    obtain ⟨k, u⟩ := e
    by_cases h : a < k
    · simp [cellInsert, cellRead, h, hab.symm]
    · simp [cellInsert, cellRead, h, ih]

theorem cellRead_insert_same (m : Cells w) (a : Nat) (v : BitVec w)
    (hm : ∀ e ∈ m, e.1 ≠ a) : cellRead (cellInsert m a v) a = v := by
  induction m with
  | nil => simp [cellInsert, cellRead]
  | cons e m ih =>
    obtain ⟨k, u⟩ := e
    have hk : k ≠ a := hm (k, u) (by simp)
    by_cases h : a < k
    · simp [cellInsert, cellRead, h]
    · simpa [cellInsert, cellRead, h, hk] using ih (fun e he => hm e (by simp [he]))

theorem cellErase_keys (m : Cells w) (a : Nat) : ∀ e ∈ cellErase m a, e.1 ≠ a := by
  induction m with
  | nil => simp [cellErase]
  | cons e m ih =>
    obtain ⟨k, u⟩ := e
    by_cases h : k = a
    · simpa [cellErase, h] using ih
    · intro e he
      rcases List.mem_cons.mp (by simpa [cellErase, h] using he) with rfl | he
      · exact h
      · exact ih e he

/-- A read after a write of the same cell gives the value written. -/
@[simp] theorem cellRead_write_same (m : Cells w) (a : Nat) (v : BitVec w) : cellRead (cellWrite m a v) a = v := by
  unfold cellWrite
  split
  · next h => rw [cellRead_erase_same, h]
  · exact cellRead_insert_same _ _ _ (cellErase_keys m a)

/-- A write leaves every other cell alone. -/
theorem cellRead_write_other (m : Cells w) {a b : Nat} (v : BitVec w) (hab : b ≠ a) :
    cellRead (cellWrite m a v) b = cellRead m b := by
  unfold cellWrite
  split
  · exact cellRead_erase_other m hab
  · rw [cellRead_insert_other _ _ hab, cellRead_erase_other m hab]

/-- Both cases of a read after a write. -/
theorem cellRead_write (m : Cells w) (a b : Nat) (v : BitVec w) :
    cellRead (cellWrite m a v) b = if b = a then v else cellRead m b := by
  split
  · next h => rw [h, cellRead_write_same]
  · next h => exact cellRead_write_other m v h

/-! ## The canonical form -/

theorem cellsWfFrom_cons {lo k : Nat} {v : BitVec w} {m : Cells w} :
    cellsWfFrom lo ((k, v) :: m) = true ↔ lo ≤ k ∧ v ≠ unlistedCell w ∧ cellsWfFrom (k + 1) m = true := by
  simp [cellsWfFrom, and_assoc]

theorem cellsWfFrom_mono {lo lo' : Nat} {m : Cells w} (h : lo' ≤ lo) (hm : cellsWfFrom lo m = true) :
    cellsWfFrom lo' m = true := by
  cases m with
  | nil => rfl
  | cons e m =>
    rw [cellsWfFrom_cons] at hm ⊢
    exact ⟨h.trans hm.1, hm.2⟩

theorem cellsWfFrom_erase {lo : Nat} {m : Cells w} (a : Nat) (hm : cellsWfFrom lo m = true) :
    cellsWfFrom lo (cellErase m a) = true := by
  induction m generalizing lo with
  | nil => rfl
  | cons e m ih =>
    obtain ⟨k, v⟩ := e
    rw [cellsWfFrom_cons] at hm
    by_cases h : k = a
    · simpa [cellErase, h] using cellsWfFrom_mono (by omega) (ih hm.2.2)
    · simp only [cellErase, h, if_false]
      exact cellsWfFrom_cons.mpr ⟨hm.1, hm.2.1, ih hm.2.2⟩

theorem cellsWfFrom_insert {lo a : Nat} {m : Cells w} {v : BitVec w} (hv : v ≠ unlistedCell w) (ha : lo ≤ a)
    (hk : ∀ e ∈ m, e.1 ≠ a) (hm : cellsWfFrom lo m = true) : cellsWfFrom lo (cellInsert m a v) = true := by
  induction m generalizing lo with
  | nil => exact cellsWfFrom_cons.mpr ⟨ha, hv, rfl⟩
  | cons e m ih =>
    obtain ⟨k, u⟩ := e
    have hne : k ≠ a := hk (k, u) (by simp)
    rw [cellsWfFrom_cons] at hm
    by_cases h : a < k
    · simp only [cellInsert, h, if_true]
      exact cellsWfFrom_cons.mpr ⟨ha, hv, cellsWfFrom_cons.mpr ⟨by omega, hm.2⟩⟩
    · simp only [cellInsert, h, if_false]
      exact cellsWfFrom_cons.mpr ⟨hm.1, hm.2.1, ih (by omega) (fun e he => hk e (by simp [he])) hm.2.2⟩

/-- A write keeps the canonical form. -/
theorem cellsWf_write {m : Cells w} (a : Nat) (v : BitVec w) (hm : cellsWf m = true) :
    cellsWf (cellWrite m a v) = true := by
  unfold cellsWf cellWrite at *
  split
  · exact cellsWfFrom_erase a hm
  · next h => exact cellsWfFrom_insert h (Nat.zero_le a) (cellErase_keys m a) (cellsWfFrom_erase a hm)

/-- The empty memory is canonical. -/
@[simp] theorem cellsWf_nil : cellsWf ([] : Cells w) = true := rfl

/-- A write of a byte memory keeps the canonical form. -/
theorem Memory.wf_write {m : Memory} (a : Nat) (v : Byte) (hm : Memory.wf m = true) :
    Memory.wf (cellWrite m a v) = true := cellsWf_write a v hm

end Sys2Proof.Machine
end

