-- ==== Sys2Proof/Laws/State.lean ====
section
/-! SUPPORT. One lemma per field per update of the state record, so that no later proof unfolds an update. -/

namespace Sys2Proof.Machine

section
variable (s : State) (w : Cpu)

@[simp] theorem State.withCpu_params : (s.withCpu w).params = s.params := rfl
@[simp] theorem State.withCpu_cart : (s.withCpu w).cart = s.cart := rfl
@[simp] theorem State.withCpu_cpu : (s.withCpu w).cpu = w := rfl
@[simp] theorem State.withCpu_ram : (s.withCpu w).ram = s.ram := rfl
@[simp] theorem State.withCpu_chrRam : (s.withCpu w).chrRam = s.chrRam := rfl
@[simp] theorem State.withCpu_mapper : (s.withCpu w).mapper = s.mapper := rfl
@[simp] theorem State.withCpu_ppu : (s.withCpu w).ppu = s.ppu := rfl
@[simp] theorem State.withCpu_apu : (s.withCpu w).apu = s.apu := rfl
@[simp] theorem State.withCpu_pad : (s.withCpu w).pad = s.pad := rfl
@[simp] theorem State.withCpu_cycles : (s.withCpu w).cycles = s.cycles := rfl
@[simp] theorem State.withCpu_fault : (s.withCpu w).fault = s.fault := rfl

/-- Two updates of the same component: the later one stands. -/
@[simp] theorem State.withCpu_withCpu (w' : Cpu) : (s.withCpu w).withCpu w' = s.withCpu w' := rfl

end

section
variable (s : State) (w : Memory)

@[simp] theorem State.withRam_params : (s.withRam w).params = s.params := rfl
@[simp] theorem State.withRam_cart : (s.withRam w).cart = s.cart := rfl
@[simp] theorem State.withRam_cpu : (s.withRam w).cpu = s.cpu := rfl
@[simp] theorem State.withRam_ram : (s.withRam w).ram = w := rfl
@[simp] theorem State.withRam_chrRam : (s.withRam w).chrRam = s.chrRam := rfl
@[simp] theorem State.withRam_mapper : (s.withRam w).mapper = s.mapper := rfl
@[simp] theorem State.withRam_ppu : (s.withRam w).ppu = s.ppu := rfl
@[simp] theorem State.withRam_apu : (s.withRam w).apu = s.apu := rfl
@[simp] theorem State.withRam_pad : (s.withRam w).pad = s.pad := rfl
@[simp] theorem State.withRam_cycles : (s.withRam w).cycles = s.cycles := rfl
@[simp] theorem State.withRam_fault : (s.withRam w).fault = s.fault := rfl

/-- Two updates of the same component: the later one stands. -/
@[simp] theorem State.withRam_withRam (w' : Memory) : (s.withRam w).withRam w' = s.withRam w' := rfl

end

section
variable (s : State) (w : Memory)

@[simp] theorem State.withChrRam_params : (s.withChrRam w).params = s.params := rfl
@[simp] theorem State.withChrRam_cart : (s.withChrRam w).cart = s.cart := rfl
@[simp] theorem State.withChrRam_cpu : (s.withChrRam w).cpu = s.cpu := rfl
@[simp] theorem State.withChrRam_ram : (s.withChrRam w).ram = s.ram := rfl
@[simp] theorem State.withChrRam_chrRam : (s.withChrRam w).chrRam = w := rfl
@[simp] theorem State.withChrRam_mapper : (s.withChrRam w).mapper = s.mapper := rfl
@[simp] theorem State.withChrRam_ppu : (s.withChrRam w).ppu = s.ppu := rfl
@[simp] theorem State.withChrRam_apu : (s.withChrRam w).apu = s.apu := rfl
@[simp] theorem State.withChrRam_pad : (s.withChrRam w).pad = s.pad := rfl
@[simp] theorem State.withChrRam_cycles : (s.withChrRam w).cycles = s.cycles := rfl
@[simp] theorem State.withChrRam_fault : (s.withChrRam w).fault = s.fault := rfl

/-- Two updates of the same component: the later one stands. -/
@[simp] theorem State.withChrRam_withChrRam (w' : Memory) : (s.withChrRam w).withChrRam w' = s.withChrRam w' := rfl

end

section
variable (s : State) (w : Mapper)

@[simp] theorem State.withMapper_params : (s.withMapper w).params = s.params := rfl
@[simp] theorem State.withMapper_cart : (s.withMapper w).cart = s.cart := rfl
@[simp] theorem State.withMapper_cpu : (s.withMapper w).cpu = s.cpu := rfl
@[simp] theorem State.withMapper_ram : (s.withMapper w).ram = s.ram := rfl
@[simp] theorem State.withMapper_chrRam : (s.withMapper w).chrRam = s.chrRam := rfl
@[simp] theorem State.withMapper_mapper : (s.withMapper w).mapper = w := rfl
@[simp] theorem State.withMapper_ppu : (s.withMapper w).ppu = s.ppu := rfl
@[simp] theorem State.withMapper_apu : (s.withMapper w).apu = s.apu := rfl
@[simp] theorem State.withMapper_pad : (s.withMapper w).pad = s.pad := rfl
@[simp] theorem State.withMapper_cycles : (s.withMapper w).cycles = s.cycles := rfl
@[simp] theorem State.withMapper_fault : (s.withMapper w).fault = s.fault := rfl

/-- Two updates of the same component: the later one stands. -/
@[simp] theorem State.withMapper_withMapper (w' : Mapper) : (s.withMapper w).withMapper w' = s.withMapper w' := rfl

end

section
variable (s : State) (w : Ppu)

@[simp] theorem State.withPpu_params : (s.withPpu w).params = s.params := rfl
@[simp] theorem State.withPpu_cart : (s.withPpu w).cart = s.cart := rfl
@[simp] theorem State.withPpu_cpu : (s.withPpu w).cpu = s.cpu := rfl
@[simp] theorem State.withPpu_ram : (s.withPpu w).ram = s.ram := rfl
@[simp] theorem State.withPpu_chrRam : (s.withPpu w).chrRam = s.chrRam := rfl
@[simp] theorem State.withPpu_mapper : (s.withPpu w).mapper = s.mapper := rfl
@[simp] theorem State.withPpu_ppu : (s.withPpu w).ppu = w := rfl
@[simp] theorem State.withPpu_apu : (s.withPpu w).apu = s.apu := rfl
@[simp] theorem State.withPpu_pad : (s.withPpu w).pad = s.pad := rfl
@[simp] theorem State.withPpu_cycles : (s.withPpu w).cycles = s.cycles := rfl
@[simp] theorem State.withPpu_fault : (s.withPpu w).fault = s.fault := rfl

/-- Two updates of the same component: the later one stands. -/
@[simp] theorem State.withPpu_withPpu (w' : Ppu) : (s.withPpu w).withPpu w' = s.withPpu w' := rfl

end

section
variable (s : State) (w : Apu)

@[simp] theorem State.withApu_params : (s.withApu w).params = s.params := rfl
@[simp] theorem State.withApu_cart : (s.withApu w).cart = s.cart := rfl
@[simp] theorem State.withApu_cpu : (s.withApu w).cpu = s.cpu := rfl
@[simp] theorem State.withApu_ram : (s.withApu w).ram = s.ram := rfl
@[simp] theorem State.withApu_chrRam : (s.withApu w).chrRam = s.chrRam := rfl
@[simp] theorem State.withApu_mapper : (s.withApu w).mapper = s.mapper := rfl
@[simp] theorem State.withApu_ppu : (s.withApu w).ppu = s.ppu := rfl
@[simp] theorem State.withApu_apu : (s.withApu w).apu = w := rfl
@[simp] theorem State.withApu_pad : (s.withApu w).pad = s.pad := rfl
@[simp] theorem State.withApu_cycles : (s.withApu w).cycles = s.cycles := rfl
@[simp] theorem State.withApu_fault : (s.withApu w).fault = s.fault := rfl

/-- Two updates of the same component: the later one stands. -/
@[simp] theorem State.withApu_withApu (w' : Apu) : (s.withApu w).withApu w' = s.withApu w' := rfl

end

section
variable (s : State) (w : Pad)

@[simp] theorem State.withPad_params : (s.withPad w).params = s.params := rfl
@[simp] theorem State.withPad_cart : (s.withPad w).cart = s.cart := rfl
@[simp] theorem State.withPad_cpu : (s.withPad w).cpu = s.cpu := rfl
@[simp] theorem State.withPad_ram : (s.withPad w).ram = s.ram := rfl
@[simp] theorem State.withPad_chrRam : (s.withPad w).chrRam = s.chrRam := rfl
@[simp] theorem State.withPad_mapper : (s.withPad w).mapper = s.mapper := rfl
@[simp] theorem State.withPad_ppu : (s.withPad w).ppu = s.ppu := rfl
@[simp] theorem State.withPad_apu : (s.withPad w).apu = s.apu := rfl
@[simp] theorem State.withPad_pad : (s.withPad w).pad = w := rfl
@[simp] theorem State.withPad_cycles : (s.withPad w).cycles = s.cycles := rfl
@[simp] theorem State.withPad_fault : (s.withPad w).fault = s.fault := rfl

/-- Two updates of the same component: the later one stands. -/
@[simp] theorem State.withPad_withPad (w' : Pad) : (s.withPad w).withPad w' = s.withPad w' := rfl

end

section
variable (s : State) (w : Nat)

@[simp] theorem State.withCycles_params : (s.withCycles w).params = s.params := rfl
@[simp] theorem State.withCycles_cart : (s.withCycles w).cart = s.cart := rfl
@[simp] theorem State.withCycles_cpu : (s.withCycles w).cpu = s.cpu := rfl
@[simp] theorem State.withCycles_ram : (s.withCycles w).ram = s.ram := rfl
@[simp] theorem State.withCycles_chrRam : (s.withCycles w).chrRam = s.chrRam := rfl
@[simp] theorem State.withCycles_mapper : (s.withCycles w).mapper = s.mapper := rfl
@[simp] theorem State.withCycles_ppu : (s.withCycles w).ppu = s.ppu := rfl
@[simp] theorem State.withCycles_apu : (s.withCycles w).apu = s.apu := rfl
@[simp] theorem State.withCycles_pad : (s.withCycles w).pad = s.pad := rfl
@[simp] theorem State.withCycles_cycles : (s.withCycles w).cycles = w := rfl
@[simp] theorem State.withCycles_fault : (s.withCycles w).fault = s.fault := rfl

/-- Two updates of the same component: the later one stands. -/
@[simp] theorem State.withCycles_withCycles (w' : Nat) : (s.withCycles w).withCycles w' = s.withCycles w' := rfl

end

section
variable (s : State) (w : Option Fault)

@[simp] theorem State.withFault_params : (s.withFault w).params = s.params := rfl
@[simp] theorem State.withFault_cart : (s.withFault w).cart = s.cart := rfl
@[simp] theorem State.withFault_cpu : (s.withFault w).cpu = s.cpu := rfl
@[simp] theorem State.withFault_ram : (s.withFault w).ram = s.ram := rfl
@[simp] theorem State.withFault_chrRam : (s.withFault w).chrRam = s.chrRam := rfl
@[simp] theorem State.withFault_mapper : (s.withFault w).mapper = s.mapper := rfl
@[simp] theorem State.withFault_ppu : (s.withFault w).ppu = s.ppu := rfl
@[simp] theorem State.withFault_apu : (s.withFault w).apu = s.apu := rfl
@[simp] theorem State.withFault_pad : (s.withFault w).pad = s.pad := rfl
@[simp] theorem State.withFault_cycles : (s.withFault w).cycles = s.cycles := rfl
@[simp] theorem State.withFault_fault : (s.withFault w).fault = w := rfl

/-- Two updates of the same component: the later one stands. -/
@[simp] theorem State.withFault_withFault (w' : Option Fault) : (s.withFault w).withFault w' = s.withFault w' := rfl

end

section
variable (s : State) (w : Cartridge)

@[simp] theorem State.withCart_params : (s.withCart w).params = s.params := rfl
@[simp] theorem State.withCart_cart : (s.withCart w).cart = w := rfl
@[simp] theorem State.withCart_cpu : (s.withCart w).cpu = s.cpu := rfl
@[simp] theorem State.withCart_ram : (s.withCart w).ram = s.ram := rfl
@[simp] theorem State.withCart_chrRam : (s.withCart w).chrRam = s.chrRam := rfl
@[simp] theorem State.withCart_mapper : (s.withCart w).mapper = s.mapper := rfl
@[simp] theorem State.withCart_ppu : (s.withCart w).ppu = s.ppu := rfl
@[simp] theorem State.withCart_apu : (s.withCart w).apu = s.apu := rfl
@[simp] theorem State.withCart_pad : (s.withCart w).pad = s.pad := rfl
@[simp] theorem State.withCart_cycles : (s.withCart w).cycles = s.cycles := rfl
@[simp] theorem State.withCart_fault : (s.withCart w).fault = s.fault := rfl

/-- Two updates of the same component: the later one stands. -/
@[simp] theorem State.withCart_withCart (w' : Cartridge) : (s.withCart w).withCart w' = s.withCart w' := rfl

end

end Sys2Proof.Machine
end

