-- ==== Sys2Proof/Laws/Registers.lean ====
section
/-! SUPPORT. One lemma per field for each register update and for the frame operations of an instruction. -/

namespace Sys2Proof.Machine

section
variable (s : State) (w : Byte)

@[simp] theorem setA_cpu : (setA s w).cpu = { s.cpu with a := w } := rfl
@[simp] theorem setA_params : (setA s w).params = s.params := rfl
@[simp] theorem setA_cart : (setA s w).cart = s.cart := rfl
@[simp] theorem setA_ram : (setA s w).ram = s.ram := rfl
@[simp] theorem setA_chrRam : (setA s w).chrRam = s.chrRam := rfl
@[simp] theorem setA_mapper : (setA s w).mapper = s.mapper := rfl
@[simp] theorem setA_ppu : (setA s w).ppu = s.ppu := rfl
@[simp] theorem setA_apu : (setA s w).apu = s.apu := rfl
@[simp] theorem setA_pad : (setA s w).pad = s.pad := rfl
@[simp] theorem setA_cycles : (setA s w).cycles = s.cycles := rfl
@[simp] theorem setA_fault : (setA s w).fault = s.fault := rfl

end

section
variable (s : State) (w : Byte)

@[simp] theorem setX_cpu : (setX s w).cpu = { s.cpu with x := w } := rfl
@[simp] theorem setX_params : (setX s w).params = s.params := rfl
@[simp] theorem setX_cart : (setX s w).cart = s.cart := rfl
@[simp] theorem setX_ram : (setX s w).ram = s.ram := rfl
@[simp] theorem setX_chrRam : (setX s w).chrRam = s.chrRam := rfl
@[simp] theorem setX_mapper : (setX s w).mapper = s.mapper := rfl
@[simp] theorem setX_ppu : (setX s w).ppu = s.ppu := rfl
@[simp] theorem setX_apu : (setX s w).apu = s.apu := rfl
@[simp] theorem setX_pad : (setX s w).pad = s.pad := rfl
@[simp] theorem setX_cycles : (setX s w).cycles = s.cycles := rfl
@[simp] theorem setX_fault : (setX s w).fault = s.fault := rfl

end

section
variable (s : State) (w : Byte)

@[simp] theorem setY_cpu : (setY s w).cpu = { s.cpu with y := w } := rfl
@[simp] theorem setY_params : (setY s w).params = s.params := rfl
@[simp] theorem setY_cart : (setY s w).cart = s.cart := rfl
@[simp] theorem setY_ram : (setY s w).ram = s.ram := rfl
@[simp] theorem setY_chrRam : (setY s w).chrRam = s.chrRam := rfl
@[simp] theorem setY_mapper : (setY s w).mapper = s.mapper := rfl
@[simp] theorem setY_ppu : (setY s w).ppu = s.ppu := rfl
@[simp] theorem setY_apu : (setY s w).apu = s.apu := rfl
@[simp] theorem setY_pad : (setY s w).pad = s.pad := rfl
@[simp] theorem setY_cycles : (setY s w).cycles = s.cycles := rfl
@[simp] theorem setY_fault : (setY s w).fault = s.fault := rfl

end

section
variable (s : State) (w : Byte)

@[simp] theorem setS_cpu : (setS s w).cpu = { s.cpu with s := w } := rfl
@[simp] theorem setS_params : (setS s w).params = s.params := rfl
@[simp] theorem setS_cart : (setS s w).cart = s.cart := rfl
@[simp] theorem setS_ram : (setS s w).ram = s.ram := rfl
@[simp] theorem setS_chrRam : (setS s w).chrRam = s.chrRam := rfl
@[simp] theorem setS_mapper : (setS s w).mapper = s.mapper := rfl
@[simp] theorem setS_ppu : (setS s w).ppu = s.ppu := rfl
@[simp] theorem setS_apu : (setS s w).apu = s.apu := rfl
@[simp] theorem setS_pad : (setS s w).pad = s.pad := rfl
@[simp] theorem setS_cycles : (setS s w).cycles = s.cycles := rfl
@[simp] theorem setS_fault : (setS s w).fault = s.fault := rfl

end

section
variable (s : State) (w : Status)

@[simp] theorem setP_cpu : (setP s w).cpu = { s.cpu with p := w } := rfl
@[simp] theorem setP_params : (setP s w).params = s.params := rfl
@[simp] theorem setP_cart : (setP s w).cart = s.cart := rfl
@[simp] theorem setP_ram : (setP s w).ram = s.ram := rfl
@[simp] theorem setP_chrRam : (setP s w).chrRam = s.chrRam := rfl
@[simp] theorem setP_mapper : (setP s w).mapper = s.mapper := rfl
@[simp] theorem setP_ppu : (setP s w).ppu = s.ppu := rfl
@[simp] theorem setP_apu : (setP s w).apu = s.apu := rfl
@[simp] theorem setP_pad : (setP s w).pad = s.pad := rfl
@[simp] theorem setP_cycles : (setP s w).cycles = s.cycles := rfl
@[simp] theorem setP_fault : (setP s w).fault = s.fault := rfl

end

section
variable (s : State) (w : Word)

@[simp] theorem setPC_cpu : (setPC s w).cpu = { s.cpu with pc := w } := rfl
@[simp] theorem setPC_params : (setPC s w).params = s.params := rfl
@[simp] theorem setPC_cart : (setPC s w).cart = s.cart := rfl
@[simp] theorem setPC_ram : (setPC s w).ram = s.ram := rfl
@[simp] theorem setPC_chrRam : (setPC s w).chrRam = s.chrRam := rfl
@[simp] theorem setPC_mapper : (setPC s w).mapper = s.mapper := rfl
@[simp] theorem setPC_ppu : (setPC s w).ppu = s.ppu := rfl
@[simp] theorem setPC_apu : (setPC s w).apu = s.apu := rfl
@[simp] theorem setPC_pad : (setPC s w).pad = s.pad := rfl
@[simp] theorem setPC_cycles : (setPC s w).cycles = s.cycles := rfl
@[simp] theorem setPC_fault : (setPC s w).fault = s.fault := rfl

end

section
variable (s : State) (n : Nat)

@[simp] theorem advancePC_cpu :
    (advancePC n s).cpu = { s.cpu with lastPC := s.cpu.pc, pc := s.cpu.pc + BitVec.ofNat 16 n } := rfl
@[simp] theorem advancePC_params : (advancePC n s).params = s.params := rfl
@[simp] theorem advancePC_cart : (advancePC n s).cart = s.cart := rfl
@[simp] theorem advancePC_ram : (advancePC n s).ram = s.ram := rfl
@[simp] theorem advancePC_chrRam : (advancePC n s).chrRam = s.chrRam := rfl
@[simp] theorem advancePC_mapper : (advancePC n s).mapper = s.mapper := rfl
@[simp] theorem advancePC_ppu : (advancePC n s).ppu = s.ppu := rfl
@[simp] theorem advancePC_apu : (advancePC n s).apu = s.apu := rfl
@[simp] theorem advancePC_pad : (advancePC n s).pad = s.pad := rfl
@[simp] theorem advancePC_cycles : (advancePC n s).cycles = s.cycles := rfl
@[simp] theorem advancePC_fault : (advancePC n s).fault = s.fault := rfl
@[simp] theorem addCycles_cycles : (addCycles n s).cycles = s.cycles + n := rfl
@[simp] theorem addCycles_params : (addCycles n s).params = s.params := rfl
@[simp] theorem addCycles_cart : (addCycles n s).cart = s.cart := rfl
@[simp] theorem addCycles_cpu : (addCycles n s).cpu = s.cpu := rfl
@[simp] theorem addCycles_ram : (addCycles n s).ram = s.ram := rfl
@[simp] theorem addCycles_chrRam : (addCycles n s).chrRam = s.chrRam := rfl
@[simp] theorem addCycles_mapper : (addCycles n s).mapper = s.mapper := rfl
@[simp] theorem addCycles_ppu : (addCycles n s).ppu = s.ppu := rfl
@[simp] theorem addCycles_apu : (addCycles n s).apu = s.apu := rfl
@[simp] theorem addCycles_pad : (addCycles n s).pad = s.pad := rfl
@[simp] theorem addCycles_fault : (addCycles n s).fault = s.fault := rfl

end

section
variable (s : State) (f : Fault)

@[simp] theorem raise_fault : (raise f s).fault = some (s.fault.getD f) := rfl
@[simp] theorem raise_params : (raise f s).params = s.params := rfl
@[simp] theorem raise_cart : (raise f s).cart = s.cart := rfl
@[simp] theorem raise_cpu : (raise f s).cpu = s.cpu := rfl
@[simp] theorem raise_ram : (raise f s).ram = s.ram := rfl
@[simp] theorem raise_chrRam : (raise f s).chrRam = s.chrRam := rfl
@[simp] theorem raise_mapper : (raise f s).mapper = s.mapper := rfl
@[simp] theorem raise_ppu : (raise f s).ppu = s.ppu := rfl
@[simp] theorem raise_apu : (raise f s).apu = s.apu := rfl
@[simp] theorem raise_pad : (raise f s).pad = s.pad := rfl
@[simp] theorem raise_cycles : (raise f s).cycles = s.cycles := rfl

end

section
variable (s : State) (v : Byte)

@[simp] theorem flagNZ_cpu : (flagNZ s v).cpu = { s.cpu with p := setNZ s.cpu.p v } := rfl
@[simp] theorem flagNZ_params : (flagNZ s v).params = s.params := rfl
@[simp] theorem flagNZ_cart : (flagNZ s v).cart = s.cart := rfl
@[simp] theorem flagNZ_ram : (flagNZ s v).ram = s.ram := rfl
@[simp] theorem flagNZ_chrRam : (flagNZ s v).chrRam = s.chrRam := rfl
@[simp] theorem flagNZ_mapper : (flagNZ s v).mapper = s.mapper := rfl
@[simp] theorem flagNZ_ppu : (flagNZ s v).ppu = s.ppu := rfl
@[simp] theorem flagNZ_apu : (flagNZ s v).apu = s.apu := rfl
@[simp] theorem flagNZ_pad : (flagNZ s v).pad = s.pad := rfl
@[simp] theorem flagNZ_cycles : (flagNZ s v).cycles = s.cycles := rfl
@[simp] theorem flagNZ_fault : (flagNZ s v).fault = s.fault := rfl

end

end Sys2Proof.Machine
end

