-- ==== Sys2Proof/Laws/Bus.lean ====
section
/-! SUPPORT. What a CPU read and a CPU write can do, said once (R101, R109). -/

namespace Sys2Proof.Machine

/-! ## Decoding -/

theorem mirror_ram {a : Nat} (h : a ≤ 0x1FFF) : mirror a = a % 0x800 := by simp [mirror, h]

theorem mirror_ppu {a : Nat} (h : 0x2000 ≤ a) (h' : a ≤ 0x3FFF) : mirror a = 0x2000 + a % 8 := by
  have : ¬ a ≤ 0x1FFF := by omega
  simp [mirror, this, h']

theorem mirror_other {a : Nat} (h : 0x4000 ≤ a) : mirror a = a := by
  have h1 : ¬ a ≤ 0x1FFF := by omega
  have h2 : ¬ a ≤ 0x3FFF := by omega
  simp [mirror, h1, h2]

/-- Work RAM and its mirrors (R102). -/
theorem target_ram {a : Word} (h : a.toNat ≤ 0x1FFF) : target a = .ram (a.toNat % 0x800) := by
  have : a.toNat % 0x800 ≤ 0x1FFF := by omega
  simp [target, mirror_ram h, targetOf, this]

/-- The PPU ports and their mirrors (R102). -/
theorem target_ppu {a : Word} (h : 0x2000 ≤ a.toNat) (h' : a.toNat ≤ 0x3FFF) :
    target a = .port (0x2000 + a.toNat % 8) := by
  have h1 : ¬ 0x2000 + a.toNat % 8 ≤ 0x1FFF := by omega
  have h2 : 0x2000 + a.toNat % 8 ≤ 0x401F := by omega
  simp [target, mirror_ppu h h', targetOf, h1, h2]

/-- The ports $4000-$401F. -/
theorem target_io {a : Word} (h : 0x4000 ≤ a.toNat) (h' : a.toNat ≤ 0x401F) : target a = .port a.toNat := by
  have h1 : ¬ a.toNat ≤ 0x1FFF := by omega
  simp [target, mirror_other h, targetOf, h1, h']

/-- Cartridge space below ROM (R105). -/
theorem target_cartLow {a : Word} (h : 0x4020 ≤ a.toNat) (h' : a.toNat ≤ 0x7FFF) : target a = .cartLow a.toNat := by
  have h0 : 0x4000 ≤ a.toNat := by omega
  have h1 : ¬ a.toNat ≤ 0x1FFF := by omega
  have h2 : ¬ a.toNat ≤ 0x401F := by omega
  simp [target, mirror_other h0, targetOf, h1, h2, h']

/-- Cartridge ROM (R106). -/
theorem target_rom {a : Word} (h : 0x8000 ≤ a.toNat) : target a = .rom a.toNat := by
  have h0 : 0x4000 ≤ a.toNat := by omega
  have h1 : ¬ a.toNat ≤ 0x1FFF := by omega
  have h2 : ¬ a.toNat ≤ 0x401F := by omega
  have h3 : ¬ a.toNat ≤ 0x7FFF := by omega
  simp [target, mirror_other h0, targetOf, h1, h2, h3]

/-! ## Reads -/

/-- All a CPU read can do (R109): besides the byte it returns, it may change the PPU's VBlank flag, write toggle, latch
and address, the APU's frame IRQ flag, and the joypad's position. -/
theorem memRead_effect (a : Word) (s : State) : ∃ vb w buf v irq pos,
    (memRead a s).2 =
      { s with ppu := { s.ppu with vblank := vb, w := w, buffer := buf, v := v },
               apu := { s.apu with frameIrq := irq }, pad := { s.pad with pos := pos } } := by
  have same : ∃ vb w buf v irq pos, s =
      { s with ppu := { s.ppu with vblank := vb, w := w, buffer := buf, v := v },
               apu := { s.apu with frameIrq := irq }, pad := { s.pad with pos := pos } } :=
    ⟨s.ppu.vblank, s.ppu.w, s.ppu.buffer, s.ppu.v, s.apu.frameIrq, s.pad.pos, rfl⟩
  unfold memRead
  split
  · exact same
  · unfold portRead
    split
    · exact ⟨false, false, s.ppu.buffer, s.ppu.v, s.apu.frameIrq, s.pad.pos, rfl⟩
    split
    · exact same
    split
    · unfold readData
      simp only
      split
      · exact ⟨s.ppu.vblank, s.ppu.w, ppuRead s (s.ppu.v.toNat % 0x4000),
          s.ppu.v + (if getBit s.ppu.ctrl 2 then 32 else 1), s.apu.frameIrq, s.pad.pos, rfl⟩
      · exact ⟨s.ppu.vblank, s.ppu.w, s.ppu.buffer, s.ppu.v + (if getBit s.ppu.ctrl 2 then 32 else 1),
          s.apu.frameIrq, s.pad.pos, rfl⟩
    split
    · exact ⟨s.ppu.vblank, s.ppu.w, s.ppu.buffer, s.ppu.v, false, s.pad.pos, rfl⟩
    split
    · refine ⟨s.ppu.vblank, s.ppu.w, s.ppu.buffer, s.ppu.v, s.apu.frameIrq, (padAdvance s.pad).pos, ?_⟩
      unfold padAdvance
      split <;> rfl
    · exact same
  · exact same
  · exact same

section
variable (a : Word) (s : State)

@[simp] theorem memRead_params : (memRead a s).2.params = s.params := by
  obtain ⟨vb, w, buf, v, irq, pos, h⟩ := memRead_effect a s; rw [h]
@[simp] theorem memRead_cart : (memRead a s).2.cart = s.cart := by
  obtain ⟨vb, w, buf, v, irq, pos, h⟩ := memRead_effect a s; rw [h]
@[simp] theorem memRead_cpu : (memRead a s).2.cpu = s.cpu := by
  obtain ⟨vb, w, buf, v, irq, pos, h⟩ := memRead_effect a s; rw [h]
@[simp] theorem memRead_ram : (memRead a s).2.ram = s.ram := by
  obtain ⟨vb, w, buf, v, irq, pos, h⟩ := memRead_effect a s; rw [h]
@[simp] theorem memRead_chrRam : (memRead a s).2.chrRam = s.chrRam := by
  obtain ⟨vb, w, buf, v, irq, pos, h⟩ := memRead_effect a s; rw [h]
@[simp] theorem memRead_mapper : (memRead a s).2.mapper = s.mapper := by
  obtain ⟨vb, w, buf, v, irq, pos, h⟩ := memRead_effect a s; rw [h]
@[simp] theorem memRead_cycles : (memRead a s).2.cycles = s.cycles := by
  obtain ⟨vb, w, buf, v, irq, pos, h⟩ := memRead_effect a s; rw [h]
@[simp] theorem memRead_fault : (memRead a s).2.fault = s.fault := by
  obtain ⟨vb, w, buf, v, irq, pos, h⟩ := memRead_effect a s; rw [h]

end

/-- A read that reaches no port changes nothing. -/
theorem memRead_noPort {a : Word} (s : State) (h : ∀ p, target a ≠ .port p) : (memRead a s).2 = s := by
  unfold memRead
  split
  · rfl
  · next p hp => exact absurd hp (h p)
  · rfl
  · rfl

/-- A read of work RAM (R101). -/
theorem memRead_ram_eq {a : Word} (s : State) (h : a.toNat ≤ 0x1FFF) :
    memRead a s = (cellRead s.ram (a.toNat % 0x800), s) := by
  simp [memRead, target_ram h]

/-- A read of cartridge ROM (R106). -/
theorem memRead_rom_eq {a : Word} (s : State) (h : 0x8000 ≤ a.toNat) : memRead a s = (prgRead s a.toNat, s) := by
  simp [memRead, target_rom h]

/-- The byte read at an address that reaches no port depends on the RAM, the cartridge, the mapper and the parameters
only. -/
theorem memRead_congr {a : Word} {s t : State} (h : ∀ p, target a ≠ .port p) (hp : t.params = s.params)
    (hc : t.cart = s.cart) (hr : t.ram = s.ram) (hm : t.mapper = s.mapper) : (memRead a t).1 = (memRead a s).1 := by
  unfold memRead
  split
  · simp [hr]
  · next p hp' => exact absurd hp' (h p)
  · simp [cartLowRead, hp, hr]
  · simp [prgRead, hc, hm]

/-! ## OAM DMA -/

/-- All OAM DMA's copies can do: what reads can do, and OAM. -/
theorem oamDmaCopy_effect (page : Byte) (n : Nat) (s : State) : ∃ vb w buf v oam irq pos,
    oamDmaCopy page n s =
      { s with ppu := { s.ppu with vblank := vb, w := w, buffer := buf, v := v, oam := oam },
               apu := { s.apu with frameIrq := irq }, pad := { s.pad with pos := pos } } := by
  induction n generalizing s with
  | zero => exact ⟨s.ppu.vblank, s.ppu.w, s.ppu.buffer, s.ppu.v, s.ppu.oam, s.apu.frameIrq, s.pad.pos, rfl⟩
  | succ n ih =>
    obtain ⟨vb, w, buf, v, irq, pos, h⟩ := memRead_effect (wordOf (BitVec.ofNat 8 (255 - n)) page) s
    obtain ⟨vb', w', buf', v', oam', irq', pos', h'⟩ := ih ((memRead (wordOf (BitVec.ofNat 8 (255 - n)) page) s).2.withPpu
      { (memRead (wordOf (BitVec.ofNat 8 (255 - n)) page) s).2.ppu with
        oam := cellWrite (memRead (wordOf (BitVec.ofNat 8 (255 - n)) page) s).2.ppu.oam
          (((memRead (wordOf (BitVec.ofNat 8 (255 - n)) page) s).2.ppu.oamaddr.toNat + (255 - n)) % 256)
          (memRead (wordOf (BitVec.ofNat 8 (255 - n)) page) s).1 })
    refine ⟨vb', w', buf', v', oam', irq', pos', ?_⟩
    unfold oamDmaCopy
    simp only
    rw [h', h]
    rfl

/-! ## Writes -/

/-- All a CPU write can do: RAM, CHR RAM, the mapper, the PPU, the APU, the joypad, and the stall of OAM DMA in the cycle
count. The parameters, the cartridge, the CPU and the fault record stay. -/
theorem memWrite_effect (a : Word) (v : Byte) (s : State) : ∃ ram chrRam mapper ppu apu pad n,
    memWrite a v s =
      { s with ram := ram, chrRam := chrRam, mapper := mapper, ppu := ppu, apu := apu, pad := pad,
               cycles := s.cycles + n } := by
  have same : ∀ p : Ppu, ∃ ram chrRam mapper ppu apu pad n, s.withPpu p =
      { s with ram := ram, chrRam := chrRam, mapper := mapper, ppu := ppu, apu := apu, pad := pad,
               cycles := s.cycles + n } := fun p => ⟨s.ram, s.chrRam, s.mapper, p, s.apu, s.pad, 0, rfl⟩
  have keep : ∃ ram chrRam mapper ppu apu pad n, s =
      { s with ram := ram, chrRam := chrRam, mapper := mapper, ppu := ppu, apu := apu, pad := pad,
               cycles := s.cycles + n } := same s.ppu
  unfold memWrite
  split
  · exact ⟨_, s.chrRam, s.mapper, s.ppu, s.apu, s.pad, 0, rfl⟩
  · unfold portWrite
    iterate 6 (split; exact same _)
    split
    · unfold writeData ppuWrite patternWrite
      simp only
      split
      · split
        · exact ⟨s.ram, _, s.mapper, bumpV s.ppu, s.apu, s.pad, 0, rfl⟩
        · exact same _
      · split
        · exact same _
        · exact same _
    split
    · unfold oamDma
      obtain ⟨vb, w, buf, v', oam, irq, pos, h⟩ := oamDmaCopy_effect v 256 s
      rw [h]
      exact ⟨s.ram, s.chrRam, s.mapper, _, _, _, s.params.oamDmaCycles, rfl⟩
    split
    · exact ⟨s.ram, s.chrRam, s.mapper, s.ppu, s.apu, _, 0, rfl⟩
    · split
      · exact ⟨s.ram, s.chrRam, s.mapper, s.ppu, _, s.pad, 0, rfl⟩
      · exact keep
  · unfold cartLowWrite
    split
    · exact ⟨_, s.chrRam, s.mapper, s.ppu, s.apu, s.pad, 0, rfl⟩
    · exact keep
  · exact ⟨s.ram, s.chrRam, _, s.ppu, s.apu, s.pad, 0, rfl⟩

section
variable (a : Word) (v : Byte) (s : State)

@[simp] theorem memWrite_params : (memWrite a v s).params = s.params := by
  obtain ⟨_, _, _, _, _, _, _, h⟩ := memWrite_effect a v s; rw [h]
@[simp] theorem memWrite_cart : (memWrite a v s).cart = s.cart := by
  obtain ⟨_, _, _, _, _, _, _, h⟩ := memWrite_effect a v s; rw [h]
@[simp] theorem memWrite_cpu : (memWrite a v s).cpu = s.cpu := by
  obtain ⟨_, _, _, _, _, _, _, h⟩ := memWrite_effect a v s; rw [h]
@[simp] theorem memWrite_fault : (memWrite a v s).fault = s.fault := by
  obtain ⟨_, _, _, _, _, _, _, h⟩ := memWrite_effect a v s; rw [h]

end

/-- A write of work RAM (R101). -/
theorem memWrite_ram_eq {a : Word} (v : Byte) (s : State) (h : a.toNat ≤ 0x1FFF) :
    memWrite a v s = s.withRam (cellWrite s.ram (a.toNat % 0x800) v) := by
  simp [memWrite, target_ram h]

/-- A write of cartridge ROM changes the mapper alone (R106). -/
theorem memWrite_rom_eq {a : Word} (v : Byte) (s : State) (h : 0x8000 ≤ a.toNat) :
    memWrite a v s = s.withMapper (mapperWrite s.mapper s.cart.nPrg a.toNat v) := by
  simp [memWrite, target_rom h]

end Sys2Proof.Machine
end

