-- ==== Sys2Proof/Laws/Devices.lean ====
section
/-! SUPPORT. What a dot and a tick can do, said once, and that they keep the memories canonical. -/

namespace Sys2Proof.Machine

/-! ## The dot -/

/-- Composition changes the sprite-0 bookkeeping and the framebuffer, or records the colour fault. -/
theorem composePixel_effect (s : State) (l d : Nat) : ∃ z fb f,
    composePixel s l d = { s with ppu := { s.ppu with s0line := z, fb := fb }, fault := f } := by
  unfold composePixel
  simp only
  split
  · exact ⟨_, s.ppu.fb, _, rfl⟩
  · exact ⟨_, _, s.fault, rfl⟩

/-- Evaluation changes the line's list and the overflow flag. -/
theorem evaluateSprites_effect (p : Ppu) (l : Nat) : ∃ o ls, evaluateSprites p l = { p with overflow := o, lineSprites := ls } := by
  unfold evaluateSprites
  split
  · exact ⟨_, _, rfl⟩
  · exact ⟨p.overflow, _, rfl⟩

/-- What the visible part of a dot can change. -/
theorem dotPixel_effect (s : State) : ∃ o ls z fb f,
    dotPixel s = { s with ppu := { s.ppu with overflow := o, lineSprites := ls, s0line := z, fb := fb }, fault := f } := by
  unfold dotPixel
  simp only
  split
  · split
    · obtain ⟨o, ls, h⟩ := evaluateSprites_effect s.ppu s.ppu.scanline
      obtain ⟨z, fb, f, h'⟩ := composePixel_effect (s.withPpu (evaluateSprites s.ppu s.ppu.scanline)) s.ppu.scanline s.ppu.dot
      exact ⟨o, ls, z, fb, f, by rw [h', h]; rfl⟩
    · obtain ⟨z, fb, f, h⟩ := composePixel_effect s s.ppu.scanline s.ppu.dot
      exact ⟨s.ppu.overflow, s.ppu.lineSprites, z, fb, f, h⟩
  · exact ⟨s.ppu.overflow, s.ppu.lineSprites, s.ppu.s0line, s.ppu.fb, s.fault, rfl⟩

/-- The events of a dot change the status flags, the NMI flag, the sprite-0 bookkeeping and the VRAM address. -/
theorem dotEvents_effect (params : Params) (l d : Nat) (on : Bool) (p : Ppu) : ∃ vb sh o v n sl z,
    dotEvents params l d on p =
      { p with vblank := vb, sprite0hit := sh, overflow := o, v := v, nmiPending := n, s0latched := sl, s0line := z } := by
  have key : ∀ (c : Bool) (f : Ppu → Ppu) (q : Ppu),
      (∃ vb sh o v n sl z, q =
        { p with vblank := vb, sprite0hit := sh, overflow := o, v := v, nmiPending := n, s0latched := sl, s0line := z }) →
      (∀ r, ∃ vb sh o v n sl z, f r =
        { r with vblank := vb, sprite0hit := sh, overflow := o, v := v, nmiPending := n, s0latched := sl, s0line := z }) →
      ∃ vb sh o v n sl z, (if c = true then f q else q) =
        { p with vblank := vb, sprite0hit := sh, overflow := o, v := v, nmiPending := n, s0latched := sl, s0line := z } := by
    rintro c f q ⟨vb, sh, o, v, n, sl, z, rfl⟩ hf
    split
    · obtain ⟨vb', sh', o', v', n', sl', z', h⟩ := hf
        { p with vblank := vb, sprite0hit := sh, overflow := o, v := v, nmiPending := n, s0latched := sl, s0line := z }
      exact ⟨vb', sh', o', v', n', sl', z', h⟩
    · exact ⟨vb, sh, o, v, n, sl, z, rfl⟩
  have base : ∃ vb sh o v n sl z, p =
      { p with vblank := vb, sprite0hit := sh, overflow := o, v := v, nmiPending := n, s0latched := sl, s0line := z } :=
    ⟨p.vblank, p.sprite0hit, p.overflow, p.v, p.nmiPending, p.s0latched, p.s0line, rfl⟩
  have viaV : ∀ g : Ppu → BitVec 15, ∀ r : Ppu, ∃ vb sh o v n sl z, { r with v := g r } =
      { r with vblank := vb, sprite0hit := sh, overflow := o, v := v, nmiPending := n, s0latched := sl, s0line := z } :=
    fun g r => ⟨r.vblank, r.sprite0hit, r.overflow, g r, r.nmiPending, r.s0latched, r.s0line, rfl⟩
  unfold dotEvents
  simp only
  refine key _ (fun r => { r with v := copyVertical r.v r.t }) _ ?_ (viaV fun r => copyVertical r.v r.t)
  refine key _ clearFrameFlags _ ?_ (fun r => ⟨false, false, false, r.v, r.nmiPending, false, false, rfl⟩)
  refine key _ startVBlank _ ?_ (fun r => ⟨true, r.sprite0hit, r.overflow, r.v, _, r.s0latched, r.s0line, rfl⟩)
  refine key _ (fun r => { r with v := copyHorizontal r.v r.t }) _ ?_ (viaV fun r => copyHorizontal r.v r.t)
  refine key _ (fun r => { r with v := incrementY r.v }) _ ?_ (viaV fun r => incrementY r.v)
  refine key _ finaliseSprite0 _ base (fun r => ?_)
  unfold finaliseSprite0
  split
  · exact ⟨r.vblank, true, r.overflow, r.v, r.nmiPending, true, false, rfl⟩
  · exact ⟨r.vblank, r.sprite0hit, r.overflow, r.v, r.nmiPending, r.s0latched, false, rfl⟩

/-- All a dot can change: the PPU and the fault record; of the PPU, neither the registers the ports write, nor the
memories but the framebuffer. -/
theorem ppuDot_effect (s : State) : ∃ p f, ppuDot s = { s with ppu := p, fault := f } ∧
    p.ctrl = s.ppu.ctrl ∧ p.mask = s.ppu.mask ∧ p.oamaddr = s.ppu.oamaddr ∧ p.t = s.ppu.t ∧ p.x = s.ppu.x ∧
    p.w = s.ppu.w ∧ p.buffer = s.ppu.buffer ∧ p.nt = s.ppu.nt ∧ p.pal = s.ppu.pal ∧ p.oam = s.ppu.oam := by
  obtain ⟨o, ls, z, fb, f, h⟩ := dotPixel_effect s
  unfold ppuDot
  simp only
  split
  · exact ⟨_, f, h, by simp⟩
  · next hn =>
    have hf : f = none := by rw [h] at hn; exact hn
    obtain ⟨vb, sh, o', v, n, sl, z', he⟩ :=
      dotEvents_effect s.params s.ppu.scanline s.ppu.dot (renderingOn s.ppu) (dotPixel s).ppu
    rw [he, h]
    refine ⟨_, f, rfl, ?_⟩
    unfold advanceDot
    split <;> simp

section
variable (s : State)

@[simp] theorem ppuDot_params : (ppuDot s).params = s.params := by obtain ⟨p, f, h, -⟩ := ppuDot_effect s; rw [h]
@[simp] theorem ppuDot_cart : (ppuDot s).cart = s.cart := by obtain ⟨p, f, h, -⟩ := ppuDot_effect s; rw [h]
@[simp] theorem ppuDot_cpu : (ppuDot s).cpu = s.cpu := by obtain ⟨p, f, h, -⟩ := ppuDot_effect s; rw [h]
@[simp] theorem ppuDot_ram : (ppuDot s).ram = s.ram := by obtain ⟨p, f, h, -⟩ := ppuDot_effect s; rw [h]
@[simp] theorem ppuDot_chrRam : (ppuDot s).chrRam = s.chrRam := by obtain ⟨p, f, h, -⟩ := ppuDot_effect s; rw [h]
@[simp] theorem ppuDot_mapper : (ppuDot s).mapper = s.mapper := by obtain ⟨p, f, h, -⟩ := ppuDot_effect s; rw [h]
@[simp] theorem ppuDot_apu : (ppuDot s).apu = s.apu := by obtain ⟨p, f, h, -⟩ := ppuDot_effect s; rw [h]
@[simp] theorem ppuDot_pad : (ppuDot s).pad = s.pad := by obtain ⟨p, f, h, -⟩ := ppuDot_effect s; rw [h]
@[simp] theorem ppuDot_cycles : (ppuDot s).cycles = s.cycles := by obtain ⟨p, f, h, -⟩ := ppuDot_effect s; rw [h]

end

/-- A dot whose pixel raises no fault goes on to its events and advances (R640). -/
theorem ppuDot_next {s : State} (h : (dotPixel s).fault = none) :
    ppuDot s = (dotPixel s).withPpu
      (advanceDot (dotEvents s.params s.ppu.scanline s.ppu.dot (renderingOn s.ppu) (dotPixel s).ppu)) := by
  simp [ppuDot, h]

/-- A dot whose pixel raises the colour fault ends there (R504). -/
theorem ppuDot_stopped {s : State} {f : Fault} (h : (dotPixel s).fault = some f) : ppuDot s = dotPixel s := by
  simp [ppuDot, h]

theorem dotPixel_fault_of {s : State} (h : (ppuDot s).fault = none) : (dotPixel s).fault = none := by
  cases hf : (dotPixel s).fault with
  | none => rfl
  | some f => rw [ppuDot_stopped hf, hf] at h; exact h

theorem dotPixel_position (s : State) :
    (dotPixel s).ppu.dot = s.ppu.dot ∧ (dotPixel s).ppu.scanline = s.ppu.scanline := by
  obtain ⟨o, ls, z, fb, f, hd⟩ := dotPixel_effect s
  rw [hd]
  exact ⟨rfl, rfl⟩

theorem dotEvents_position (params : Params) (l d : Nat) (on : Bool) (p : Ppu) :
    (dotEvents params l d on p).dot = p.dot ∧ (dotEvents params l d on p).scanline = p.scanline := by
  obtain ⟨vb, sh, o, v, n, sl, z, he⟩ := dotEvents_effect params l d on p
  rw [he]
  exact ⟨rfl, rfl⟩

theorem advanceDot_dot (p : Ppu) : (advanceDot p).dot = if p.dot + 1 = 341 then 0 else p.dot + 1 := by
  unfold advanceDot; split <;> rfl

theorem advanceDot_scanline (p : Ppu) : (advanceDot p).scanline =
    if p.dot + 1 = 341 then (if p.scanline + 1 = 262 then 0 else p.scanline + 1) else p.scanline := by
  unfold advanceDot; split <;> rfl

/-- The position after a dot that raised no fault is the next one (R640). -/
theorem ppuDot_position {s : State} (h : (ppuDot s).fault = none) :
    (ppuDot s).ppu.dot = (if s.ppu.dot + 1 = 341 then 0 else s.ppu.dot + 1) ∧
    (ppuDot s).ppu.scanline =
      (if s.ppu.dot + 1 = 341 then (if s.ppu.scanline + 1 = 262 then 0 else s.ppu.scanline + 1) else s.ppu.scanline) := by
  rw [ppuDot_next (dotPixel_fault_of h), State.withPpu_ppu, advanceDot_dot, advanceDot_scanline,
    (dotEvents_position _ _ _ _ _).1, (dotEvents_position _ _ _ _ _).2, (dotPixel_position s).1, (dotPixel_position s).2]
  exact ⟨rfl, rfl⟩

/-! ## Pixels -/

/-- A pattern pixel is one of four colours (R614). -/
theorem planeColour_lt (lo hi : Byte) (bit : Nat) : planeColour lo hi bit < 4 := by
  simp only [planeColour, byteBit]
  omega

theorem spriteColour_lt (s : State) (i l d : Nat) : spriteColour s i l d < 4 := by
  unfold spriteColour
  simp only
  split
  · exact planeColour_lt ..
  · omega

/-- The background's palette and colour are each one of four (R655). -/
theorem bgColour_lt (s : State) (d : Nat) : (bgColour s d).1 < 4 ∧ (bgColour s d).2 < 4 := by
  unfold bgColour
  simp only
  split
  · exact ⟨Nat.mod_lt _ (by omega), planeColour_lt ..⟩
  · exact ⟨by decide, by decide⟩

/-- The first sprite's colour and palette are each one of four (R653). -/
theorem firstSprite_lt (s : State) (l d : Nat) (list : List Nat) :
    (firstSprite s l d list).1 < 4 ∧ (firstSprite s l d list).2.1 < 4 := by
  induction list with
  | nil => exact ⟨Nat.zero_lt_succ 3, Nat.zero_lt_succ 3⟩
  | cons i rest ih =>
    simp only [firstSprite]
    split
    · exact ⟨spriteColour_lt .., (getField (oamByte s.ppu i 2) 0 2).isLt⟩
    · exact ih

theorem spritePixel_lt (s : State) (l d : Nat) : (spritePixel s l d).1 < 4 ∧ (spritePixel s l d).2.1 < 4 := by
  unfold spritePixel
  split
  · exact firstSprite_lt ..
  · exact ⟨by decide, by decide⟩

/-- The multiplexer of R666 selects an entry of palette RAM that is its own storage (R613), the backdrop included. -/
theorem palIndex_paletteEntry {bp bc sc sp : Nat} (behind : Bool) (h1 : bp < 4) (h2 : bc < 4) (h3 : sc < 4) (h4 : sp < 4) :
    palIndex (0x3F00 + paletteEntry bp bc sc sp behind) = paletteEntry bp bc sc sp behind := by
  have key : ∀ bp bc sc sp : Fin 4, ∀ b : Bool,
      palIndex (0x3F00 + paletteEntry bp bc sc sp b) = paletteEntry bp bc sc sp b := by decide
  exact key ⟨bp, h1⟩ ⟨bc, h2⟩ ⟨sc, h3⟩ ⟨sp, h4⟩ behind

/-! ## The tick -/

/-- The step of the noise shift register (R733) as arithmetic: halved, the feedback in bit 14. -/
theorem lfsrNext_eq (mode : Bool) (l : BitVec 15) : lfsrNext mode l = BitVec.ofNat 15 (l.toNat / 2 +
    16384 * ((l.toNat % 2 + l.toNat / (if mode = true then 64 else 2) % 2) % 2)) := by
  have hl := l.isLt
  have h14 : ∀ b : Bool, (BitVec.ofNat 15 (bitNat b) <<< 14).toNat = 16384 * bitNat b := by decide
  apply BitVec.eq_of_toNat_eq
  have key : ∀ b : Bool, (l >>> 1 ||| BitVec.ofNat 15 (bitNat b) <<< 14).toNat = l.toNat / 2 + 16384 * bitNat b := by
    intro b
    rw [BitVec.toNat_or, h14, BitVec.toNat_ushiftRight, Nat.shiftRight_eq_div_pow, Nat.or_comm,
      show 16384 * bitNat b = bitNat b <<< 14 by rw [Nat.shiftLeft_eq]; omega,
      ← Nat.shiftLeft_add_eq_or_of_lt (by omega), Nat.shiftLeft_eq]
    omega
  rw [lfsrNext, key, getBit_eq_div_mod, getBit_eq_div_mod, getBit_eq_div_mod]
  rcases Nat.mod_two_eq_zero_or_one l.toNat with h0 | h0 <;> cases mode <;>
    rcases Nat.mod_two_eq_zero_or_one (l.toNat / 2) with h1 | h1 <;>
    rcases Nat.mod_two_eq_zero_or_one (l.toNat / 64) with h2 | h2 <;>
    simp [h0, h1, h2, bitNat] <;> omega

section
variable (s : State)

@[simp] theorem apuTick_params : (apuTick s).params = s.params := rfl
@[simp] theorem apuTick_cart : (apuTick s).cart = s.cart := rfl
@[simp] theorem apuTick_cpu : (apuTick s).cpu = s.cpu := rfl
@[simp] theorem apuTick_ram : (apuTick s).ram = s.ram := rfl
@[simp] theorem apuTick_chrRam : (apuTick s).chrRam = s.chrRam := rfl
@[simp] theorem apuTick_mapper : (apuTick s).mapper = s.mapper := rfl
@[simp] theorem apuTick_ppu : (apuTick s).ppu = s.ppu := rfl
@[simp] theorem apuTick_apu : (apuTick s).apu = apuTickOf s.params s.apu := rfl
@[simp] theorem apuTick_pad : (apuTick s).pad = s.pad := rfl
@[simp] theorem apuTick_cycles : (apuTick s).cycles = s.cycles := rfl
@[simp] theorem apuTick_fault : (apuTick s).fault = s.fault := rfl

end

@[simp] theorem frameSequencerTick_cycles (a : Apu) : (frameSequencerTick a).cycles = a.cycles := by
  unfold frameSequencerTick frameEvents
  simp only
  repeat' split
  all_goals rfl

@[simp] theorem channelTimers_cycles (params : Params) (a : Apu) : (channelTimers params a).cycles = a.cycles := by
  unfold channelTimers
  split <;> rfl

/-- A tick counts itself (R701). -/
@[simp] theorem apuTickOf_cycles (params : Params) (a : Apu) : (apuTickOf params a).cycles = a.cycles + 1 := by
  unfold apuTickOf sampleTick
  simp only
  split <;> simp

/-! ## Canonical memories -/

/-- A dot keeps the framebuffer canonical. -/
theorem ppuDot_fb (s : State) (h : cellsWf s.ppu.fb = true) : cellsWf (ppuDot s).ppu.fb = true := by
  have hc : ∀ (t : State) (l d : Nat), cellsWf t.ppu.fb = true → cellsWf (composePixel t l d).ppu.fb = true := by
    intro t l d ht
    unfold composePixel
    simp only
    split
    · exact ht
    · exact cellsWf_write _ _ ht
  have hp : cellsWf (dotPixel s).ppu.fb = true := by
    unfold dotPixel
    simp only
    split
    · split
      · obtain ⟨o, ls, he⟩ := evaluateSprites_effect s.ppu s.ppu.scanline
        exact hc _ _ _ (by rw [he]; exact h)
      · exact hc _ _ _ h
    · exact h
  unfold ppuDot
  simp only
  split
  · exact hp
  · obtain ⟨vb, sh, o', v, n, sl, z', he⟩ :=
      dotEvents_effect s.params s.ppu.scanline s.ppu.dot (renderingOn s.ppu) (dotPixel s).ppu
    rw [he]
    simp only [State.withPpu_ppu, advanceDot]
    split <;> exact hp

end Sys2Proof.Machine
end

