-- ==== Sys2Proof/Laws/Ops.lean ====
section
/-! SUPPORT. What the shared operations of the meanings can do, said once: the resolvers, the operand, the stack, the
interrupt entry and return, and the shapes of instructions. -/

namespace Sys2Proof.Machine

/-! ## Bytes and words -/

/-- The value of a little-endian word. -/
theorem wordOf_toNat (lo hi : Byte) : (wordOf lo hi).toNat = 256 * hi.toNat + lo.toNat := by
  have h := BitVec.toNat_append hi lo
  have hl := lo.isLt
  rw [← Nat.shiftLeft_add_eq_or_of_lt hl, Nat.shiftLeft_eq] at h
  exact h.trans (by omega)

theorem lowByte_toNat (v : Word) : (lowByte v).toNat = v.toNat % 256 := by simp [lowByte]

theorem highByte_toNat (v : Word) : (highByte v).toNat = v.toNat / 256 := by
  have := v.isLt
  simp [highByte, Nat.shiftRight_eq_div_pow]
  omega

@[simp] theorem wordOf_bytes (v : Word) : wordOf (lowByte v) (highByte v) = v := by
  apply BitVec.eq_of_toNat_eq
  rw [wordOf_toNat, lowByte_toNat, highByte_toNat]
  omega

@[simp] theorem lowByte_wordOf (lo hi : Byte) : lowByte (wordOf lo hi) = lo := by
  have := lo.isLt
  apply BitVec.eq_of_toNat_eq
  rw [lowByte_toNat, wordOf_toNat]
  omega

@[simp] theorem highByte_wordOf (lo hi : Byte) : highByte (wordOf lo hi) = hi := by
  have := lo.isLt
  apply BitVec.eq_of_toNat_eq
  rw [highByte_toNat, wordOf_toNat]
  omega

/-! ## The stack page -/

theorem stackAddr_toNat (v : Byte) : (stackAddr v).toNat = 256 + v.toNat := by
  have := v.isLt
  simp [stackAddr, BitVec.toNat_add, BitVec.toNat_setWidth]
  omega

/-- The stack page is work RAM. -/
theorem stackAddr_ram (v : Byte) : target (stackAddr v) = .ram (256 + v.toNat) := by
  have := v.isLt
  rw [target_ram (by rw [stackAddr_toNat]; omega), stackAddr_toNat, Nat.mod_eq_of_lt (by omega)]

theorem memWrite_stack (v w : Byte) (s : State) :
    memWrite (stackAddr v) w s = s.withRam (cellWrite s.ram (256 + v.toNat) w) := by
  simp [memWrite, stackAddr_ram]

theorem memRead_stack (v : Byte) (s : State) : memRead (stackAddr v) s = (cellRead s.ram (256 + v.toNat), s) := by
  simp [memRead, stackAddr_ram]

/-- `Push8` (R120): the byte lands at $0100 + `S`, `S` steps down modulo 256, nothing else changes. -/
theorem push8_eq (v : Byte) (s : State) :
    push8 v s = { s with ram := cellWrite s.ram (256 + s.cpu.s.toNat) v, cpu := { s.cpu with s := s.cpu.s - 1 } } := by
  simp [push8, memWrite_stack, State.withRam, setS, State.withCpu]

/-- `Pull8` (R121, R125): the byte above `S`, with the vacated byte cleared under `STACK_CLEAR_ON_POP`. -/
theorem pull8_eq (s : State) :
    pull8 s = (cellRead s.ram (256 + (s.cpu.s + 1).toNat),
      { s with ram := if s.params.stackClearOnPop then cellWrite s.ram (256 + (s.cpu.s + 1).toNat) 0 else s.ram,
               cpu := { s.cpu with s := s.cpu.s + 1 } }) := by
  simp only [pull8, memRead_stack, setS, State.withCpu]
  split
  · simp [memWrite_stack, State.withRam]
  · rfl

/-- `Push16` (R122). -/
theorem push16_eq (v : Word) (s : State) :
    push16 v s = { s with
      ram := cellWrite (cellWrite s.ram (256 + s.cpu.s.toNat) (highByte v)) (256 + (s.cpu.s - 1).toNat) (lowByte v),
      cpu := { s.cpu with s := s.cpu.s - 1 - 1 } } := by
  simp [push16, push8_eq]

/-- `Pull16` (R123) without `STACK_CLEAR_ON_POP`. -/
theorem pull16_eq (s : State) (h : s.params.stackClearOnPop = false) :
    pull16 s = (wordOf (cellRead s.ram (256 + (s.cpu.s + 1).toNat)) (cellRead s.ram (256 + (s.cpu.s + 1 + 1).toNat)),
      { s with cpu := { s.cpu with s := s.cpu.s + 1 + 1 } }) := by
  simp [pull16, pull8_eq, h]

/-! ## Vectors -/

/-- A word read of cartridge ROM changes nothing. -/
theorem memRead16_rom {a : Word} (s : State) (h : 0x8000 ≤ a.toNat) (h' : 0x8000 ≤ (a + 1).toNat) :
    memRead16 a s = (wordOf (prgRead s a.toNat) (prgRead s (a + 1).toNat), s) := by
  simp only [memRead16, memRead_rom_eq _ h, memRead_rom_eq _ h']

/-- Taking an interrupt (R440, R520), written out. -/
theorem takeInterrupt_eq (ret : Word) (b : Bool) (vector : Word) (s : State) (h : 0x8000 ≤ vector.toNat)
    (h' : 0x8000 ≤ (vector + 1).toNat) :
    takeInterrupt ret b vector s = { s with
      ram := cellWrite (cellWrite (cellWrite s.ram (256 + s.cpu.s.toNat) (highByte ret))
        (256 + (s.cpu.s - 1).toNat) (lowByte ret)) (256 + (s.cpu.s - 1 - 1).toNat) (statusByteWith s.cpu.p b),
      cpu := { s.cpu with s := s.cpu.s - 1 - 1 - 1, p := { s.cpu.p with i := true },
                          pc := wordOf (prgRead s vector.toNat) (prgRead s (vector + 1).toNat) } } := by
  simp only [takeInterrupt, memRead16_rom _ h h', push16_eq, push8_eq, setP, setPC, State.withCpu, prgRead]

/-! ## Resolvers and operands -/

section
variable (m : Operand) (s : State)

@[simp] theorem zpPointer_params (p : Byte) : (zpPointer p s).2.params = s.params := by simp [zpPointer]
@[simp] theorem zpPointer_cart (p : Byte) : (zpPointer p s).2.cart = s.cart := by simp [zpPointer]
@[simp] theorem zpPointer_cpu (p : Byte) : (zpPointer p s).2.cpu = s.cpu := by simp [zpPointer]
@[simp] theorem zpPointer_ram (p : Byte) : (zpPointer p s).2.ram = s.ram := by simp [zpPointer]
@[simp] theorem zpPointer_chrRam (p : Byte) : (zpPointer p s).2.chrRam = s.chrRam := by simp [zpPointer]
@[simp] theorem zpPointer_mapper (p : Byte) : (zpPointer p s).2.mapper = s.mapper := by simp [zpPointer]
@[simp] theorem zpPointer_cycles (p : Byte) : (zpPointer p s).2.cycles = s.cycles := by simp [zpPointer]
@[simp] theorem zpPointer_fault (p : Byte) : (zpPointer p s).2.fault = s.fault := by simp [zpPointer]

@[simp] theorem resolve_params : (resolve m s).st.params = s.params := by cases m <;> simp [resolve]
@[simp] theorem resolve_cart : (resolve m s).st.cart = s.cart := by cases m <;> simp [resolve]
@[simp] theorem resolve_cpu : (resolve m s).st.cpu = s.cpu := by cases m <;> simp [resolve]
@[simp] theorem resolve_ram : (resolve m s).st.ram = s.ram := by cases m <;> simp [resolve]
@[simp] theorem resolve_chrRam : (resolve m s).st.chrRam = s.chrRam := by cases m <;> simp [resolve]
@[simp] theorem resolve_mapper : (resolve m s).st.mapper = s.mapper := by cases m <;> simp [resolve]
@[simp] theorem resolve_cycles : (resolve m s).st.cycles = s.cycles := by cases m <;> simp [resolve]
@[simp] theorem resolve_fault : (resolve m s).st.fault = s.fault := by cases m <;> simp [resolve]

end

section
variable (m : Operand) (r : Resolved)

@[simp] theorem operandValue_params : (operandValue m r).2.params = r.st.params := by cases m <;> simp [operandValue]
@[simp] theorem operandValue_cart : (operandValue m r).2.cart = r.st.cart := by cases m <;> simp [operandValue]
@[simp] theorem operandValue_cpu : (operandValue m r).2.cpu = r.st.cpu := by cases m <;> simp [operandValue]
@[simp] theorem operandValue_ram : (operandValue m r).2.ram = r.st.ram := by cases m <;> simp [operandValue]
@[simp] theorem operandValue_chrRam : (operandValue m r).2.chrRam = r.st.chrRam := by cases m <;> simp [operandValue]
@[simp] theorem operandValue_mapper : (operandValue m r).2.mapper = r.st.mapper := by cases m <;> simp [operandValue]
@[simp] theorem operandValue_cycles : (operandValue m r).2.cycles = r.st.cycles := by cases m <;> simp [operandValue]
@[simp] theorem operandValue_fault : (operandValue m r).2.fault = r.st.fault := by cases m <;> simp [operandValue]

end

section
variable (i : Instr) (s : State)

@[simp] theorem startOf_params : (startOf i s).params = s.params := rfl
@[simp] theorem startOf_cart : (startOf i s).cart = s.cart := rfl
@[simp] theorem startOf_cpu :
    (startOf i s).cpu = { s.cpu with lastPC := s.cpu.pc, pc := s.cpu.pc + BitVec.ofNat 16 i.entry.bytes } := rfl
@[simp] theorem startOf_ram : (startOf i s).ram = s.ram := rfl
@[simp] theorem startOf_chrRam : (startOf i s).chrRam = s.chrRam := rfl
@[simp] theorem startOf_mapper : (startOf i s).mapper = s.mapper := rfl
@[simp] theorem startOf_ppu : (startOf i s).ppu = s.ppu := rfl
@[simp] theorem startOf_apu : (startOf i s).apu = s.apu := rfl
@[simp] theorem startOf_pad : (startOf i s).pad = s.pad := rfl
@[simp] theorem startOf_cycles : (startOf i s).cycles = s.cycles := rfl
@[simp] theorem startOf_fault : (startOf i s).fault = s.fault := rfl

@[simp] theorem resolveOf_params : (resolveOf i s).st.params = s.params := by simp [resolveOf]
@[simp] theorem resolveOf_cart : (resolveOf i s).st.cart = s.cart := by simp [resolveOf]
@[simp] theorem resolveOf_cpu : (resolveOf i s).st.cpu =
    { s.cpu with lastPC := s.cpu.pc, pc := s.cpu.pc + BitVec.ofNat 16 i.entry.bytes } := by simp [resolveOf]
@[simp] theorem resolveOf_ram : (resolveOf i s).st.ram = s.ram := by simp [resolveOf]
@[simp] theorem resolveOf_chrRam : (resolveOf i s).st.chrRam = s.chrRam := by simp [resolveOf]
@[simp] theorem resolveOf_mapper : (resolveOf i s).st.mapper = s.mapper := by simp [resolveOf]
@[simp] theorem resolveOf_cycles : (resolveOf i s).st.cycles = s.cycles := by simp [resolveOf]
@[simp] theorem resolveOf_fault : (resolveOf i s).st.fault = s.fault := by simp [resolveOf]

@[simp] theorem operandOf_params : (operandOf i s).2.params = s.params := by simp [operandOf]
@[simp] theorem operandOf_cart : (operandOf i s).2.cart = s.cart := by simp [operandOf]
@[simp] theorem operandOf_cpu : (operandOf i s).2.cpu =
    { s.cpu with lastPC := s.cpu.pc, pc := s.cpu.pc + BitVec.ofNat 16 i.entry.bytes } := by simp [operandOf]
@[simp] theorem operandOf_ram : (operandOf i s).2.ram = s.ram := by simp [operandOf]
@[simp] theorem operandOf_chrRam : (operandOf i s).2.chrRam = s.chrRam := by simp [operandOf]
@[simp] theorem operandOf_mapper : (operandOf i s).2.mapper = s.mapper := by simp [operandOf]
@[simp] theorem operandOf_cycles : (operandOf i s).2.cycles = s.cycles := by simp [operandOf]
@[simp] theorem operandOf_fault : (operandOf i s).2.fault = s.fault := by simp [operandOf]

end

/-- A zero-page pointer is two bytes of work RAM: reading it changes nothing. -/
theorem zpPointer_eq (p : Byte) (s : State) : zpPointer p s =
    (wordOf (cellRead s.ram p.toNat) (cellRead s.ram (pointerHigh s.params p).toNat), s) := by
  have hp := p.isLt
  have h1 : (zeroPage p).toNat = p.toNat := by
    simp [zeroPage, BitVec.toNat_setWidth]; omega
  have h2 : (pointerHigh s.params p).toNat ≤ 256 := by
    unfold pointerHigh
    split
    · have := (p + 1).isLt
      simp [zeroPage, BitVec.toNat_setWidth]; omega
    · simp [zeroPage, BitVec.toNat_add, BitVec.toNat_setWidth]; omega
  have h3 : (pointerHigh s.params p).toNat % 2048 = (pointerHigh s.params p).toNat := Nat.mod_eq_of_lt (by omega)
  have h4 : p.toNat % 2048 = p.toNat := Nat.mod_eq_of_lt (by omega)
  simp only [zpPointer]
  rw [memRead_ram_eq s (a := zeroPage p) (by omega), memRead_ram_eq s (a := pointerHigh s.params p) (by omega), h1, h3, h4]

/-- Only the resolver of `(nnnn)` may reach a port. -/
theorem resolve_st_eq {m : Operand} (h : ∀ o, m ≠ .ind o) (s : State) : (resolve m s).st = s := by
  cases m with
  | ind o => exact absurd rfl (h o)
  | _ => simp [resolve, zpPointer_eq]

/-! ## Every meaning preserves what the bus preserves -/

/-- A property of states that the bus and the updates of the CPU, the cycle count and the fault record preserve. -/
structure Preserved (P : State → Prop) : Prop where
  read : ∀ a s, P s → P (memRead a s).2
  write : ∀ a v s, P s → P (memWrite a v s)
  cpu : ∀ c s, P s → P (s.withCpu c)
  cycles : ∀ n s, P s → P (s.withCycles (s.cycles + n))
  fault : ∀ f s, P s → P (s.withFault (some f))

namespace Preserved

variable {P : State → Prop} (h : Preserved P)
include h

theorem zpPointer (p : Byte) (s : State) (hs : P s) : P (zpPointer p s).2 := h.read _ _ (h.read _ _ hs)

theorem resolve (m : Operand) (s : State) (hs : P s) : P (resolve m s).st := by
  cases m with
  | indx o => exact h.zpPointer _ _ hs
  | indy o => exact h.zpPointer _ _ hs
  | ind o => exact h.read _ _ (h.read _ _ hs)
  | _ => exact hs

theorem startOf (i : Instr) (s : State) (hs : P s) : P (startOf i s) := h.cpu _ _ hs

theorem resolveOf (i : Instr) (s : State) (hs : P s) : P (resolveOf i s).st := h.resolve _ _ (h.startOf i s hs)

theorem operandOf (i : Instr) (s : State) (hs : P s) : P (operandOf i s).2 := by
  have hr := h.resolveOf i s hs
  unfold Machine.operandOf operandValue
  split
  · exact hr
  · exact hr
  · exact h.read _ _ hr

theorem addCycles (n : Nat) (s : State) (hs : P s) : P (addCycles n s) := h.cycles _ _ hs

theorem raise (f : Fault) (s : State) (hs : P s) : P (raise f s) := h.fault _ _ hs

theorem push8 (v : Byte) (s : State) (hs : P s) : P (push8 v s) := h.cpu _ _ (h.write _ _ _ hs)

theorem push16 (v : Word) (s : State) (hs : P s) : P (push16 v s) := h.push8 _ _ (h.push8 _ _ hs)

theorem pull8 (s : State) (hs : P s) : P (pull8 s).2 := by
  have hr := h.read (stackAddr (setS s (s.cpu.s + 1)).cpu.s) _ (h.cpu { s.cpu with s := s.cpu.s + 1 } s hs)
  unfold Machine.pull8
  simp only
  split
  · exact h.write _ _ _ hr
  · exact hr

theorem pull16 (s : State) (hs : P s) : P (pull16 s).2 := h.pull8 _ (h.pull8 _ hs)

theorem takeInterrupt (ret : Word) (b : Bool) (vector : Word) (s : State) (hs : P s) :
    P (takeInterrupt ret b vector s) :=
  h.cpu _ _ (h.read _ _ (h.read _ _ (h.cpu _ _ (h.push8 _ _ (h.push16 _ _ hs)))))

theorem returnFromInterrupt (s : State) (hs : P s) : P (returnFromInterrupt s) :=
  h.cpu _ _ (h.pull16 _ (h.cpu _ _ (h.pull8 _ hs)))

theorem nmiEntry (s : State) (hs : P s) : P (nmiEntry s) := by
  unfold Machine.nmiEntry
  split
  · exact h.raise _ _ hs
  · exact h.addCycles _ _ (h.takeInterrupt _ _ _ _ hs)

theorem runRead (i : Instr) {f : Byte → State → State} (hf : ∀ v s, P s → P (f v s)) (s : State) (hs : P s) :
    P (runRead i f s) := h.addCycles _ _ (hf _ _ (h.operandOf i s hs))

theorem runStore (i : Instr) (reg : Cpu → Byte) (s : State) (hs : P s) : P (runStore i reg s) :=
  h.addCycles _ _ (h.write _ _ _ (h.resolveOf i s hs))

theorem writeBack (m : Operand) (ea : Word) (v : Byte) (s : State) (hs : P s) : P (writeBack m ea v s) := by
  unfold Machine.writeBack
  split
  · exact h.cpu _ _ hs
  · exact h.write _ _ _ hs

theorem runModify (i : Instr) (g : Byte → Bool → Byte) (k : Status → Byte → Status) (s : State) (hs : P s) :
    P (runModify i g k s) := h.addCycles _ _ (h.cpu _ _ (h.writeBack _ _ _ _ (h.operandOf i s hs)))

theorem runImplied (i : Instr) {f : State → State} (hf : ∀ s, P s → P (f s)) (s : State) (hs : P s) :
    P (runImplied i f s) := h.addCycles _ _ (hf _ (h.startOf i s hs))

theorem runPush (i : Instr) (k : Nat) {f : Resolved → State} (hf : ∀ r, P r.st → P (f r)) (s : State) (hs : P s) :
    P (runPush i k f s) := by
  unfold Machine.runPush
  simp only
  split
  · exact h.raise _ _ (h.resolveOf i s hs)
  · exact h.addCycles _ _ (hf _ (h.resolveOf i s hs))

theorem runPull (i : Instr) (k : Nat) {f : State → State} (hf : ∀ s, P s → P (f s)) (s : State) (hs : P s) :
    P (runPull i k f s) := by
  unfold Machine.runPull
  simp only
  split
  · exact h.raise _ _ (h.startOf i s hs)
  · exact h.addCycles _ _ (hf _ (h.startOf i s hs))

theorem runBranch (i : Instr) (cond : Status → Bool) (s : State) (hs : P s) : P (runBranch i cond s) := by
  unfold Machine.runBranch
  simp only
  refine h.addCycles _ _ ?_
  split
  · exact h.cpu _ _ (h.resolveOf i s hs)
  · exact h.resolveOf i s hs

end Preserved

end Sys2Proof.Machine
end

