-- ==== Sys2Proof/Laws/Exec.lean ====
section
/-! SUPPORT. What any instruction can do, said once over `exec`: it answers a next state, and it preserves whatever the
bus and the updates of the CPU, the cycle count and the fault record preserve. -/

namespace Sys2Proof.Machine

/-- Every instruction answers a next state. -/
theorem exec_next (i : Instr) (s : State) : ∃ t, exec i s = .next t := by
  cases i <;> exact ⟨_, rfl⟩

namespace Preserved

variable {P : State → Prop} (h : Preserved P)
include h

theorem loadA (v : Byte) (s : State) (hs : P s) : P (loadA v s) := h.cpu _ _ (h.cpu _ _ hs)
theorem loadX (v : Byte) (s : State) (hs : P s) : P (loadX v s) := h.cpu _ _ (h.cpu _ _ hs)
theorem loadY (v : Byte) (s : State) (hs : P s) : P (loadY v s) := h.cpu _ _ (h.cpu _ _ hs)
theorem addA (v : Byte) (s : State) (hs : P s) : P (addA v s) := h.cpu _ _ (h.cpu _ _ hs)
theorem subA (v : Byte) (s : State) (hs : P s) : P (subA v s) := h.cpu _ _ (h.cpu _ _ hs)
theorem andA (v : Byte) (s : State) (hs : P s) : P (andA v s) := h.loadA _ _ hs
theorem orA (v : Byte) (s : State) (hs : P s) : P (orA v s) := h.loadA _ _ hs
theorem eorA (v : Byte) (s : State) (hs : P s) : P (eorA v s) := h.loadA _ _ hs
theorem compareReg (r v : Byte) (s : State) (hs : P s) : P (compareReg r v s) := h.cpu _ _ hs
theorem testBits (v : Byte) (s : State) (hs : P s) : P (testBits v s) := h.cpu _ _ hs

theorem pullA (s : State) (hs : P s) : P (pullA s) := h.loadA _ _ (h.pull8 _ hs)
theorem pullP (s : State) (hs : P s) : P (pullP s) := h.cpu _ _ (h.pull8 _ hs)
theorem callTarget (r : Resolved) (hr : P r.st) : P (callTarget r) := h.cpu _ _ (h.push16 _ _ hr)
theorem returnCaller (s : State) (hs : P s) : P (returnCaller s) := h.cpu _ _ (h.pull16 _ hs)
theorem softwareBreak (r : Resolved) (hr : P r.st) : P (softwareBreak r) := h.takeInterrupt _ _ _ _ hr
theorem runJump (i : Instr) (s : State) (hs : P s) : P (runJump i s) := h.addCycles _ _ (h.cpu _ _ (h.resolveOf i s hs))

/-- An instruction preserves what the bus and the updates preserve. -/
theorem exec {i : Instr} {s t : State} (hs : P s) (he : exec i s = .next t) : P t := by
  have key : ∀ u, Machine.exec i s = .next u → P u := by
    cases i <;> intro u hu <;> injection hu with hu <;> subst hu <;>
    first
      | with_reducible exact h.runRead _ h.loadA _ hs
      | with_reducible exact h.runRead _ h.loadX _ hs
      | with_reducible exact h.runRead _ h.loadY _ hs
      | with_reducible exact h.runRead _ h.addA _ hs
      | with_reducible exact h.runRead _ h.subA _ hs
      | with_reducible exact h.runRead _ h.andA _ hs
      | with_reducible exact h.runRead _ h.orA _ hs
      | with_reducible exact h.runRead _ h.eorA _ hs
      | with_reducible exact h.runRead _ h.testBits _ hs
      | with_reducible exact h.runStore _ _ _ hs
      | with_reducible exact h.runModify _ _ _ _ hs
      | with_reducible exact h.runBranch _ _ _ hs
      | with_reducible exact h.runJump _ _ hs
      | with_reducible exact h.runPush _ _ h.callTarget _ hs
      | with_reducible exact h.runPush _ _ h.softwareBreak _ hs
      | with_reducible exact h.runPull _ _ h.pullA _ hs
      | with_reducible exact h.runPull _ _ h.pullP _ hs
      | with_reducible exact h.runPull _ _ h.returnCaller _ hs
      | with_reducible exact h.runPull _ _ h.returnFromInterrupt _ hs
      | (with_reducible refine h.runRead _ ?_ _ hs); exact fun v s hs => h.compareReg _ v s hs
      | (with_reducible refine h.runPush _ _ ?_ _ hs); exact fun r hr => h.push8 _ _ hr
      | (with_reducible refine h.runImplied _ ?_ _ hs); first
        | exact fun s hs => hs
        | exact fun s hs => h.cpu _ _ hs
        | exact fun s hs => h.cpu _ _ (h.cpu _ _ hs)
  exact key t he

end Preserved

end Sys2Proof.Machine
end

