-- ==== Sys2Proof/Laws/Canonical.lean ====
section
/-! SUPPORT. Every memory operation keeps every memory in its canonical form. -/

namespace Sys2Proof.Machine

/-- Canonicity looks at the six memories only. -/
theorem canonical_congr {s t : State} (hs : s.canonical) (hr : t.ram = s.ram) (hc : t.chrRam = s.chrRam)
    (hn : t.ppu.nt = s.ppu.nt) (hp : t.ppu.pal = s.ppu.pal) (ho : t.ppu.oam = s.ppu.oam) (hf : t.ppu.fb = s.ppu.fb) :
    t.canonical := by
  unfold State.canonical at *
  rw [hr, hc, hn, hp, ho, hf]
  exact hs

/-- A CPU read keeps the memories canonical. -/
theorem canonical_memRead (a : Word) (s : State) (hs : s.canonical) : (memRead a s).2.canonical := by
  obtain ⟨vb, w, buf, v, irq, pos, h⟩ := memRead_effect a s
  rw [h]
  exact hs

/-- The copies of OAM DMA keep the memories canonical. -/
theorem canonical_oamDmaCopy (page : Byte) (n : Nat) (s : State) (hs : s.canonical) :
    (oamDmaCopy page n s).canonical := by
  induction n generalizing s with
  | zero => exact hs
  | succ n ih =>
    obtain ⟨hr, hc, hn, hp, ho, hf⟩ := canonical_memRead (wordOf (BitVec.ofNat 8 (255 - n)) page) s hs
    exact ih _ ⟨hr, hc, hn, hp, Memory.wf_write _ _ ho, hf⟩

/-- A PPU write keeps the memories canonical. -/
theorem canonical_ppuWrite (s : State) (a : Nat) (v : Byte) (hs : s.canonical) : (ppuWrite s a v).canonical := by
  have hs' := hs
  obtain ⟨hr, hc, hn, hp, ho, hf⟩ := hs
  unfold ppuWrite patternWrite
  simp only
  split
  · split
    · exact ⟨hr, Memory.wf_write _ _ hc, hn, hp, ho, hf⟩
    · exact hs'
  · split
    · exact ⟨hr, hc, Memory.wf_write _ _ hn, hp, ho, hf⟩
    · exact ⟨hr, hc, hn, Memory.wf_write _ _ hp, ho, hf⟩

/-- A port write keeps the memories canonical. -/
theorem canonical_portWrite (s : State) (p : Nat) (v : Byte) (hs : s.canonical) : (portWrite s p v).canonical := by
  unfold portWrite
  split; · exact hs
  split; · exact hs
  split; · exact hs
  split
  · obtain ⟨hr, hc, hn, hp, ho, hf⟩ := hs
    exact ⟨hr, hc, hn, hp, Memory.wf_write _ _ ho, hf⟩
  split
  · unfold writeScroll; split <;> exact hs
  split
  · unfold writeAddr; split <;> exact hs
  split
  · exact canonical_ppuWrite s _ v hs
  split
  · have hc := canonical_oamDmaCopy v 256 s hs
    unfold oamDma
    generalize oamDmaCopy v 256 s = u at hc
    exact hc
  split; · exact hs
  split <;> exact hs

/-- A CPU write keeps the memories canonical. -/
theorem canonical_memWrite (a : Word) (v : Byte) (s : State) (hs : s.canonical) : (memWrite a v s).canonical := by
  unfold memWrite
  split
  · obtain ⟨hr, hrest⟩ := hs
    exact ⟨Memory.wf_write _ _ hr, hrest⟩
  · exact canonical_portWrite s _ v hs
  · unfold cartLowWrite
    split
    · obtain ⟨hr, hrest⟩ := hs
      exact ⟨Memory.wf_write _ _ hr, hrest⟩
    · exact hs
  · exact hs

/-- The placement of a byte by the host keeps the memories canonical. -/
theorem canonical_poke (a : Word) (v : Byte) (s : State) (hs : s.canonical) : (poke a v s).canonical := by
  unfold poke
  split
  · obtain ⟨hr, hrest⟩ := hs
    exact ⟨Memory.wf_write _ _ hr, hrest⟩
  · exact hs
  · unfold cartLowWrite
    split
    · obtain ⟨hr, hrest⟩ := hs
      exact ⟨Memory.wf_write _ _ hr, hrest⟩
    · exact hs
  · exact hs

/-- Canonicity is preserved by whatever an instruction does. -/
theorem canonical_preserved : Preserved State.canonical where
  read := canonical_memRead
  write := canonical_memWrite
  cpu _ _ hs := hs
  cycles _ _ hs := hs
  fault _ _ hs := hs

/-- A dot keeps the memories canonical. -/
theorem canonical_ppuDot (s : State) (hs : s.canonical) : (ppuDot s).canonical := by
  obtain ⟨hr, hc, hn, hp, ho, hf⟩ := hs
  have hfb := ppuDot_fb s hf
  obtain ⟨p, f, h, -, -, -, -, -, -, -, hn', hp', ho'⟩ := ppuDot_effect s
  rw [h] at hfb ⊢
  refine ⟨hr, hc, ?_, ?_, ?_, hfb⟩
  · simpa [hn'] using hn
  · simpa [hp'] using hp
  · simpa [ho'] using ho

end Sys2Proof.Machine
end

