-- ==== Sys2Proof/Laws/Decode.lean ====
section
/-! SUPPORT. What the decoder does on each format (R200), and that the opcode map R203 and the listing R204 agree. -/

namespace Sys2Proof

theorem decode_f1 {op : Byte} {i : Instr} (rest : List Byte) (h : opcodeMap op = .f1 i) :
    decode (op :: rest) = .ok (i, rest) := by simp [decode, h]

theorem decode_f2 {op : Byte} {mk : Byte → Instr} (o : Byte) (rest : List Byte) (h : opcodeMap op = .f2 mk) :
    decode (op :: o :: rest) = .ok (mk o, rest) := by simp [decode, h]

theorem decode_f3 {op : Byte} {mk : Word → Instr} (lo hi : Byte) (rest : List Byte) (h : opcodeMap op = .f3 mk) :
    decode (op :: lo :: hi :: rest) = .ok (mk (wordOf lo hi), rest) := by simp [decode, h]

/-- Each byte of the map against the listing: the row's opcode is that byte, its length is its format's, and its operand
bytes are the ones the format reads. -/
theorem opcodeMap_listing (op : Byte) :
    match opcodeMap op with
    | .unwired => True
    | .f1 i => i.opcode = op ∧ i.entry.bytes = 1 ∧ operandBytes i.entry.operand = []
    | .f2 mk => ∀ o, (mk o).opcode = op ∧ (mk o).entry.bytes = 2 ∧ operandBytes (mk o).entry.operand = [o]
    | .f3 mk => ∀ w, (mk w).opcode = op ∧ (mk w).entry.bytes = 3 ∧
        operandBytes (mk w).entry.operand = [lowByte w, highByte w] := by
  have key : ∀ n, n < 256 →
      match opcodeMap (BitVec.ofNat 8 n) with
      | .unwired => True
      | .f1 i => i.opcode = BitVec.ofNat 8 n ∧ i.entry.bytes = 1 ∧ operandBytes i.entry.operand = []
      | .f2 mk => ∀ o, (mk o).opcode = BitVec.ofNat 8 n ∧ (mk o).entry.bytes = 2 ∧
          operandBytes (mk o).entry.operand = [o]
      | .f3 mk => ∀ w, (mk w).opcode = BitVec.ofNat 8 n ∧ (mk w).entry.bytes = 3 ∧
          operandBytes (mk w).entry.operand = [lowByte w, highByte w] := by
    intro n hn
    interval_cases n <;> first | trivial | exact ⟨rfl, rfl, rfl⟩ | exact fun _ => ⟨rfl, rfl, rfl⟩
  have h := key op.toNat op.isLt
  rwa [BitVec.ofNat_toNat, BitVec.setWidth_eq] at h

end Sys2Proof
end

