-- ==== Sys2Proof/Laws/Fetch.lean ====
section
/-! SUPPORT. What the fetch reads. -/

namespace Sys2Proof.Machine

/-- Bytes that decode to a wired instruction are fetched as it (R250, R208). -/
theorem fetchInstr_of_decode {s : State} {i : Instr} (hw : i.wellFormed s.params = true)
    (hd : decode (fetchBytes i.entry.bytes s.cpu.pc s).1 = .ok (i, [])) :
    fetchInstr s = .instr i (fetchBytes i.entry.bytes s.cpu.pc s).2 := by
  obtain ⟨n, hn⟩ : ∃ n, i.entry.bytes = n + 1 := ⟨i.entry.bytes - 1, by cases i <;> rfl⟩
  have hl := opcodeMap_listing (memRead s.cpu.pc s).1
  rw [hn] at hd ⊢
  simp only [fetchBytes, decode] at hd ⊢
  unfold fetchInstr
  split at hd
  · cases hd
  · next j hj =>
    rw [hj] at hl
    simp only [Except.ok.injEq, Prod.mk.injEq] at hd
    obtain ⟨rfl, h2⟩ := hd
    obtain ⟨h3, h4, h5⟩ := hl
    have hz : n = 0 := by omega
    subst hz
    have : s.params.wired j.opcode = true := hw
    simp only [h3] at this
    simp [this, hj, fetchBytes]
  · next mk o r hj hr =>
    rw [hj] at hl
    simp only [Except.ok.injEq, Prod.mk.injEq] at hd
    obtain ⟨rfl, h2⟩ := hd
    obtain ⟨h3, h4, h5⟩ := hl o
    have hz : n = 1 := by omega
    subst hz
    simp only [fetchBytes, List.cons.injEq] at hr
    have : s.params.wired (mk o).opcode = true := hw
    simp only [h3] at this
    rw [← hr.1]
    simp [this, hj, fetchBytes]
  · cases hd
  · next mk lo hi r hj hr =>
    rw [hj] at hl
    simp only [Except.ok.injEq, Prod.mk.injEq] at hd
    obtain ⟨rfl, h2⟩ := hd
    obtain ⟨h3, h4, h5⟩ := hl (wordOf lo hi)
    have hz : n = 2 := by omega
    subst hz
    simp only [fetchBytes, List.cons.injEq] at hr
    have : s.params.wired (mk (wordOf lo hi)).opcode = true := hw
    simp only [h3] at this
    have e : s.cpu.pc + 1 + 1 = s.cpu.pc + 2 := by rw [BitVec.add_assoc]; rfl
    rw [e] at hr
    rw [← hr.1, ← hr.2.1]
    simp only [this, if_true, hj, fetchBytes, e]
  · cases hd

/-- A fetch that touches no port leaves the state as it is (R109). -/
theorem fetchBytes_state {n : Nat} {a : Word} {s : State}
    (h : ∀ k, k < n → isPort (a + BitVec.ofNat 16 k) = false) : (fetchBytes n a s).2 = s := by
  induction n generalizing a s with
  | zero => rfl
  | succ n ih =>
    have h0 : (memRead a s).2 = s := by
      apply memRead_noPort
      intro p hp
      have := h 0 (by omega)
      simp [isPort, hp] at this
    simp only [fetchBytes, h0]
    apply ih
    intro k hk
    have := h (k + 1) (by omega)
    rw [← this]
    congr 1
    apply BitVec.eq_of_toNat_eq
    simp [BitVec.toNat_add]
    omega

end Sys2Proof.Machine
end

