-- ==== Sys2Proof/Laws/Loop.lean ====
section
/-! SUPPORT. What a loop step can do, said once: the fetch, the device advance, the NMI check, and the properties a whole
step preserves. -/

namespace Sys2Proof.Machine

/-! ## The outcome of a step -/

/-- A state that holds a fault is stuck (R505). -/
theorem step_stuck {s : State} {f : Fault} (h : s.fault = some f) : step s = .fault f := by
  simp [step, h]

/-- A step without a fault before it answers a next state. -/
theorem step_next {s : State} (h : s.fault = none) : ∃ t, step s = .next t := by
  unfold step
  rw [h]
  simp only
  split
  · exact ⟨_, rfl⟩
  · next i s1 _ =>
    obtain ⟨t, ht⟩ := exec_next i s1
    rw [ht]
    exact ⟨_, rfl⟩

/-- The two forms of a step without a fault before it (R850, R251). -/
theorem step_cases {s t : State} (h : step s = .next t) :
    s.fault = none ∧
    ((∃ op s1, fetchInstr s = .unwired op s1 ∧ t = faultUnwired op s1) ∨
     (∃ i s1 s2, fetchInstr s = .instr i s1 ∧ exec i s1 = .next s2 ∧ t = afterInstr s1 s2)) := by
  cases hf : s.fault with
  | some f => rw [step_stuck hf] at h; cases h
  | none =>
    refine ⟨rfl, ?_⟩
    unfold step at h
    rw [hf] at h
    simp only at h
    split at h
    · next op s1 hop =>
      injection h with h
      exact .inl ⟨op, s1, hop, h.symm⟩
    · next i s1 hi =>
      obtain ⟨s2, h2⟩ := exec_next i s1
      rw [h2] at h
      injection h with h
      exact .inr ⟨i, s1, s2, hi, h2, h.symm⟩

/-! ## The fetch -/

/-- The state after the reads of a fetch. -/
def fetchedState : Fetched → State
  | .unwired _ s => s
  | .instr _ s => s

/-- A fetch is one, two or three CPU reads. -/
theorem fetch_preserved {P : State → Prop} (hr : ∀ a s, P s → P (memRead a s).2) {s : State} (hs : P s) :
    P (fetchedState (fetchInstr s)) := by
  have h1 := hr s.cpu.pc s hs
  have h2 := hr (s.cpu.pc + 1) _ h1
  have h3 := hr (s.cpu.pc + 2) _ h2
  unfold fetchInstr
  simp only
  split
  · split
    · exact h1
    · exact h1
    · exact h2
    · exact h3
  · exact h1

theorem fetch_unwired {P : State → Prop} (hr : ∀ a s, P s → P (memRead a s).2) {s s1 : State} {op : Byte} (hs : P s)
    (h : fetchInstr s = .unwired op s1) : P s1 := by
  have := fetch_preserved hr hs
  rw [h] at this
  exact this

theorem fetch_instr {P : State → Prop} (hr : ∀ a s, P s → P (memRead a s).2) {s s1 : State} {i : Instr} (hs : P s)
    (h : fetchInstr s = .instr i s1) : P s1 := by
  have := fetch_preserved hr hs
  rw [h] at this
  exact this

/-! ## The device advance -/

theorem advanceOne_fault {s : State} (h : (advanceOne s).fault = none) :
    (ppuDot s).fault = none ∧ (ppuDot (ppuDot s)).fault = none ∧ (ppuDot (ppuDot (ppuDot s))).fault = none ∧
    advanceOne s = apuTick (ppuDot (ppuDot (ppuDot s))) := by
  unfold advanceOne at h ⊢
  cases h1 : (ppuDot s).fault with
  | some f => simp [h1] at h
  | none =>
    cases h2 : (ppuDot (ppuDot s)).fault with
    | some f => simp [h1, h2] at h
    | none =>
      cases h3 : (ppuDot (ppuDot (ppuDot s))).fault with
      | some f => simp [h1, h2, h3] at h
      | none => simp [h1, h2, h3]

theorem advanceOne_preserved {P : State → Prop} (hd : ∀ s, P s → P (ppuDot s)) (ht : ∀ s, P s → P (apuTick s))
    {s : State} (hs : P s) : P (advanceOne s) := by
  have h1 := hd _ hs
  have h2 := hd _ h1
  have h3 := hd _ h2
  unfold advanceOne
  simp only
  split
  · exact h1
  · split
    · exact h2
    · split
      · exact h3
      · exact ht _ h3

theorem advanceDevices_preserved {P : State → Prop} (hd : ∀ s, P s → P (ppuDot s)) (ht : ∀ s, P s → P (apuTick s))
    (n : Nat) {s : State} (hs : P s) : P (advanceDevices n s) := by
  induction n generalizing s with
  | zero => exact hs
  | succ n ih =>
    have h1 := advanceOne_preserved hd ht hs
    unfold advanceDevices
    simp only
    split
    · exact h1
    · exact ih h1

/-- A device advance that ends without a fault is one CPU cycle's advance without a fault, then the rest (R851). -/
theorem advanceDevices_succ {n : Nat} {s : State} (h : (advanceDevices (n + 1) s).fault = none) :
    (advanceOne s).fault = none ∧ advanceDevices (n + 1) s = advanceDevices n (advanceOne s) := by
  have key : advanceDevices (n + 1) s =
      match (advanceOne s).fault with
      | some _ => advanceOne s
      | none => advanceDevices n (advanceOne s) := rfl
  rw [key] at h ⊢
  cases h1 : (advanceOne s).fault with
  | some f => simp [h1] at h
  | none => simp

/-- Nothing but the PPU, the APU and the fault record changes while the devices advance. -/
theorem advanceDevices_effect (n : Nat) (s : State) : ∃ p a f,
    advanceDevices n s = { s with ppu := p, apu := a, fault := f } := by
  refine advanceDevices_preserved (P := fun t => ∃ p a f, t = { s with ppu := p, apu := a, fault := f }) ?_ ?_ n
    ⟨s.ppu, s.apu, s.fault, rfl⟩
  · rintro t ⟨p, a, f, rfl⟩
    obtain ⟨p', f', h, -⟩ := ppuDot_effect { s with ppu := p, apu := a, fault := f }
    exact ⟨p', a, f', h⟩
  · rintro t ⟨p, a, f, rfl⟩
    exact ⟨p, apuTickOf s.params a, f, rfl⟩

section
variable (n : Nat) (s : State)

@[simp] theorem advanceDevices_params : (advanceDevices n s).params = s.params := by
  obtain ⟨p, a, f, h⟩ := advanceDevices_effect n s; rw [h]
@[simp] theorem advanceDevices_cart : (advanceDevices n s).cart = s.cart := by
  obtain ⟨p, a, f, h⟩ := advanceDevices_effect n s; rw [h]
@[simp] theorem advanceDevices_cpu : (advanceDevices n s).cpu = s.cpu := by
  obtain ⟨p, a, f, h⟩ := advanceDevices_effect n s; rw [h]
@[simp] theorem advanceDevices_ram : (advanceDevices n s).ram = s.ram := by
  obtain ⟨p, a, f, h⟩ := advanceDevices_effect n s; rw [h]
@[simp] theorem advanceDevices_chrRam : (advanceDevices n s).chrRam = s.chrRam := by
  obtain ⟨p, a, f, h⟩ := advanceDevices_effect n s; rw [h]
@[simp] theorem advanceDevices_mapper : (advanceDevices n s).mapper = s.mapper := by
  obtain ⟨p, a, f, h⟩ := advanceDevices_effect n s; rw [h]
@[simp] theorem advanceDevices_pad : (advanceDevices n s).pad = s.pad := by
  obtain ⟨p, a, f, h⟩ := advanceDevices_effect n s; rw [h]
@[simp] theorem advanceDevices_cycles : (advanceDevices n s).cycles = s.cycles := by
  obtain ⟨p, a, f, h⟩ := advanceDevices_effect n s; rw [h]

end

/-! ## Properties a whole step preserves -/

/-- A property of states that the bus, the updates of an instruction, the NMI flag's clearing, a dot and a tick
preserve. -/
structure Stepwise (P : State → Prop) : Prop extends Preserved P where
  dot : ∀ s, P s → P (ppuDot s)
  tick : ∀ s, P s → P (apuTick s)
  nmi : ∀ s, P s → P (pullNmi s)

namespace Stepwise

variable {P : State → Prop} (h : Stepwise P)
include h

theorem mirrorCycles (s : State) {t : State} (ht : P t) : P (mirrorCycles s t) :=
  advanceDevices_preserved h.dot h.tick _ ht

theorem nmiCheck {s : State} (hs : P s) : P (nmiCheck s) := by
  unfold Machine.nmiCheck
  simp only
  split
  · have h1 := h.toPreserved.nmiEntry _ (h.nmi _ hs)
    split
    · exact h1
    · exact h.mirrorCycles _ h1
  · exact hs

theorem afterInstr (s : State) {t : State} (ht : P t) : P (afterInstr s t) := by
  unfold Machine.afterInstr
  simp only
  split
  · exact ht
  · have h1 := h.mirrorCycles s ht
    split
    · exact h1
    · exact h.nmiCheck h1

/-- A step preserves what its parts preserve. -/
theorem step {s t : State} (hs : P s) (ht : step s = .next t) : P t := by
  obtain ⟨-, ⟨op, s1, hf, rfl⟩ | ⟨i, s1, s2, hf, he, rfl⟩⟩ := step_cases ht
  · exact h.toPreserved.raise _ _ (fetch_unwired h.read hs hf)
  · exact h.afterInstr s1 (h.toPreserved.exec (fetch_instr h.read hs hf) he)

end Stepwise

/-- A loop step keeps the memories canonical, dot by dot and access by access. -/
theorem canonical_stepwise : Stepwise State.canonical where
  toPreserved := canonical_preserved
  dot := canonical_ppuDot
  tick _ hs := hs
  nmi _ hs := hs

end Sys2Proof.Machine
end

