-- ==== Sys2Proof/Laws/Host.lean ====
section
/-! SUPPORT. The state right after reset is what the reset sequence gives, and its memories are canonical. -/

namespace Sys2Proof.Machine

/-- `State.reset` is the power-on reset R900 of the blank cartridge with the default parameters and every draw 0. -/
theorem reset_eq_powerOn : powerOn Params.default Cartridge.blank Draws.zero = State.reset := by rfl

/-- The memories of the state right after reset are canonical. -/
theorem reset_canonical : State.reset.canonical := by
  refine ⟨rfl, rfl, rfl, rfl, rfl, rfl⟩

/-- Placing an instruction keeps the memories canonical. -/
theorem canonical_withFetchWord (s : State) (nbits w : Nat) (hs : s.canonical) : (s.withFetchWord nbits w).canonical := by
  have key : ∀ (bs : List Byte) (a : Word) (t : State), t.canonical → (pokeBytes a bs t).canonical := by
    intro bs
    induction bs with
    | nil => exact fun _ _ ht => ht
    | cons b bs ih => exact fun a t ht => ih _ _ (canonical_poke a b t ht)
  unfold State.withFetchWord placeTableWord
  refine key _ _ _ ?_
  unfold atStorage
  split <;> exact hs

end Sys2Proof.Machine
end

