-- ==== Sys2Proof/Laws/PerInstr.lean ====
section
/-! SUPPORT. The statements made per instruction: the layout of an instruction's bytes (R200): the opcode byte first, as
many bytes as its table entry says, its operand's low byte before the high one. -/

namespace Sys2Proof.Laws

/-- The bytes of a format (R200): 0 for an opcode byte with no handler. -/
def OperandLayout.formatBytes : Format → Nat
  | .unwired => 0
  | .f1 _ => 1
  | .f2 _ => 2
  | .f3 _ => 3

/-- The encoding of `i` starts with its opcode, has the length of its table entry, and the opcode map sends its opcode
byte to a format of that length (R200, R208). -/
def OperandLayout.Statement (i : Instr) : Prop :=
  (encode i).length = i.entry.bytes ∧ (encode i).head? = some i.entry.opcode ∧
  OperandLayout.formatBytes (opcodeMap i.entry.opcode) = i.entry.bytes

theorem OperandLayout.ldaIndx (o8 : Byte) : OperandLayout.Statement (.ldaIndx o8) :=
  ⟨rfl, rfl, (rfl : OperandLayout.formatBytes (opcodeMap 0xA1) = 2)⟩
theorem OperandLayout.ldaZp (o8 : Byte) : OperandLayout.Statement (.ldaZp o8) :=
  ⟨rfl, rfl, (rfl : OperandLayout.formatBytes (opcodeMap 0xA5) = 2)⟩
theorem OperandLayout.ldaImm (o8 : Byte) : OperandLayout.Statement (.ldaImm o8) :=
  ⟨rfl, rfl, (rfl : OperandLayout.formatBytes (opcodeMap 0xA9) = 2)⟩
theorem OperandLayout.ldaAbs (o16 : Word) : OperandLayout.Statement (.ldaAbs o16) :=
  ⟨rfl, rfl, (rfl : OperandLayout.formatBytes (opcodeMap 0xAD) = 3)⟩
theorem OperandLayout.ldaIndy (o8 : Byte) : OperandLayout.Statement (.ldaIndy o8) :=
  ⟨rfl, rfl, (rfl : OperandLayout.formatBytes (opcodeMap 0xB1) = 2)⟩
theorem OperandLayout.ldaZpx (o8 : Byte) : OperandLayout.Statement (.ldaZpx o8) :=
  ⟨rfl, rfl, (rfl : OperandLayout.formatBytes (opcodeMap 0xB5) = 2)⟩
theorem OperandLayout.ldaAbsy (o16 : Word) : OperandLayout.Statement (.ldaAbsy o16) :=
  ⟨rfl, rfl, (rfl : OperandLayout.formatBytes (opcodeMap 0xB9) = 3)⟩
theorem OperandLayout.ldaAbsx (o16 : Word) : OperandLayout.Statement (.ldaAbsx o16) :=
  ⟨rfl, rfl, (rfl : OperandLayout.formatBytes (opcodeMap 0xBD) = 3)⟩
theorem OperandLayout.ldxImm (o8 : Byte) : OperandLayout.Statement (.ldxImm o8) :=
  ⟨rfl, rfl, (rfl : OperandLayout.formatBytes (opcodeMap 0xA2) = 2)⟩
theorem OperandLayout.ldxZp (o8 : Byte) : OperandLayout.Statement (.ldxZp o8) :=
  ⟨rfl, rfl, (rfl : OperandLayout.formatBytes (opcodeMap 0xA6) = 2)⟩
theorem OperandLayout.ldxAbs (o16 : Word) : OperandLayout.Statement (.ldxAbs o16) :=
  ⟨rfl, rfl, (rfl : OperandLayout.formatBytes (opcodeMap 0xAE) = 3)⟩
theorem OperandLayout.ldxZpy (o8 : Byte) : OperandLayout.Statement (.ldxZpy o8) :=
  ⟨rfl, rfl, (rfl : OperandLayout.formatBytes (opcodeMap 0xB6) = 2)⟩
theorem OperandLayout.ldxAbsy (o16 : Word) : OperandLayout.Statement (.ldxAbsy o16) :=
  ⟨rfl, rfl, (rfl : OperandLayout.formatBytes (opcodeMap 0xBE) = 3)⟩
theorem OperandLayout.ldyImm (o8 : Byte) : OperandLayout.Statement (.ldyImm o8) :=
  ⟨rfl, rfl, (rfl : OperandLayout.formatBytes (opcodeMap 0xA0) = 2)⟩
theorem OperandLayout.ldyZp (o8 : Byte) : OperandLayout.Statement (.ldyZp o8) :=
  ⟨rfl, rfl, (rfl : OperandLayout.formatBytes (opcodeMap 0xA4) = 2)⟩
theorem OperandLayout.ldyAbs (o16 : Word) : OperandLayout.Statement (.ldyAbs o16) :=
  ⟨rfl, rfl, (rfl : OperandLayout.formatBytes (opcodeMap 0xAC) = 3)⟩
theorem OperandLayout.ldyZpx (o8 : Byte) : OperandLayout.Statement (.ldyZpx o8) :=
  ⟨rfl, rfl, (rfl : OperandLayout.formatBytes (opcodeMap 0xB4) = 2)⟩
theorem OperandLayout.ldyAbsx (o16 : Word) : OperandLayout.Statement (.ldyAbsx o16) :=
  ⟨rfl, rfl, (rfl : OperandLayout.formatBytes (opcodeMap 0xBC) = 3)⟩
theorem OperandLayout.staIndx (o8 : Byte) : OperandLayout.Statement (.staIndx o8) :=
  ⟨rfl, rfl, (rfl : OperandLayout.formatBytes (opcodeMap 0x81) = 2)⟩
theorem OperandLayout.staZp (o8 : Byte) : OperandLayout.Statement (.staZp o8) :=
  ⟨rfl, rfl, (rfl : OperandLayout.formatBytes (opcodeMap 0x85) = 2)⟩
theorem OperandLayout.staAbs (o16 : Word) : OperandLayout.Statement (.staAbs o16) :=
  ⟨rfl, rfl, (rfl : OperandLayout.formatBytes (opcodeMap 0x8D) = 3)⟩
theorem OperandLayout.staIndy (o8 : Byte) : OperandLayout.Statement (.staIndy o8) :=
  ⟨rfl, rfl, (rfl : OperandLayout.formatBytes (opcodeMap 0x91) = 2)⟩
theorem OperandLayout.staZpx (o8 : Byte) : OperandLayout.Statement (.staZpx o8) :=
  ⟨rfl, rfl, (rfl : OperandLayout.formatBytes (opcodeMap 0x95) = 2)⟩
theorem OperandLayout.staAbsy (o16 : Word) : OperandLayout.Statement (.staAbsy o16) :=
  ⟨rfl, rfl, (rfl : OperandLayout.formatBytes (opcodeMap 0x99) = 3)⟩
theorem OperandLayout.staAbsx (o16 : Word) : OperandLayout.Statement (.staAbsx o16) :=
  ⟨rfl, rfl, (rfl : OperandLayout.formatBytes (opcodeMap 0x9D) = 3)⟩
theorem OperandLayout.stxZp (o8 : Byte) : OperandLayout.Statement (.stxZp o8) :=
  ⟨rfl, rfl, (rfl : OperandLayout.formatBytes (opcodeMap 0x86) = 2)⟩
theorem OperandLayout.stxAbs (o16 : Word) : OperandLayout.Statement (.stxAbs o16) :=
  ⟨rfl, rfl, (rfl : OperandLayout.formatBytes (opcodeMap 0x8E) = 3)⟩
theorem OperandLayout.stxZpy (o8 : Byte) : OperandLayout.Statement (.stxZpy o8) :=
  ⟨rfl, rfl, (rfl : OperandLayout.formatBytes (opcodeMap 0x96) = 2)⟩
theorem OperandLayout.styZp (o8 : Byte) : OperandLayout.Statement (.styZp o8) :=
  ⟨rfl, rfl, (rfl : OperandLayout.formatBytes (opcodeMap 0x84) = 2)⟩
theorem OperandLayout.styAbs (o16 : Word) : OperandLayout.Statement (.styAbs o16) :=
  ⟨rfl, rfl, (rfl : OperandLayout.formatBytes (opcodeMap 0x8C) = 3)⟩
theorem OperandLayout.styZpx (o8 : Byte) : OperandLayout.Statement (.styZpx o8) :=
  ⟨rfl, rfl, (rfl : OperandLayout.formatBytes (opcodeMap 0x94) = 2)⟩
theorem OperandLayout.tax : OperandLayout.Statement .tax :=
  ⟨rfl, rfl, (rfl : OperandLayout.formatBytes (opcodeMap 0xAA) = 1)⟩
theorem OperandLayout.tay : OperandLayout.Statement .tay :=
  ⟨rfl, rfl, (rfl : OperandLayout.formatBytes (opcodeMap 0xA8) = 1)⟩
theorem OperandLayout.txa : OperandLayout.Statement .txa :=
  ⟨rfl, rfl, (rfl : OperandLayout.formatBytes (opcodeMap 0x8A) = 1)⟩
theorem OperandLayout.tya : OperandLayout.Statement .tya :=
  ⟨rfl, rfl, (rfl : OperandLayout.formatBytes (opcodeMap 0x98) = 1)⟩
theorem OperandLayout.tsx : OperandLayout.Statement .tsx :=
  ⟨rfl, rfl, (rfl : OperandLayout.formatBytes (opcodeMap 0xBA) = 1)⟩
theorem OperandLayout.txs : OperandLayout.Statement .txs :=
  ⟨rfl, rfl, (rfl : OperandLayout.formatBytes (opcodeMap 0x9A) = 1)⟩
theorem OperandLayout.pha : OperandLayout.Statement .pha :=
  ⟨rfl, rfl, (rfl : OperandLayout.formatBytes (opcodeMap 0x48) = 1)⟩
theorem OperandLayout.php : OperandLayout.Statement .php :=
  ⟨rfl, rfl, (rfl : OperandLayout.formatBytes (opcodeMap 0x08) = 1)⟩
theorem OperandLayout.pla : OperandLayout.Statement .pla :=
  ⟨rfl, rfl, (rfl : OperandLayout.formatBytes (opcodeMap 0x68) = 1)⟩
theorem OperandLayout.plp : OperandLayout.Statement .plp :=
  ⟨rfl, rfl, (rfl : OperandLayout.formatBytes (opcodeMap 0x28) = 1)⟩
theorem OperandLayout.adcIndx (o8 : Byte) : OperandLayout.Statement (.adcIndx o8) :=
  ⟨rfl, rfl, (rfl : OperandLayout.formatBytes (opcodeMap 0x61) = 2)⟩
theorem OperandLayout.adcZp (o8 : Byte) : OperandLayout.Statement (.adcZp o8) :=
  ⟨rfl, rfl, (rfl : OperandLayout.formatBytes (opcodeMap 0x65) = 2)⟩
theorem OperandLayout.adcImm (o8 : Byte) : OperandLayout.Statement (.adcImm o8) :=
  ⟨rfl, rfl, (rfl : OperandLayout.formatBytes (opcodeMap 0x69) = 2)⟩
theorem OperandLayout.adcAbs (o16 : Word) : OperandLayout.Statement (.adcAbs o16) :=
  ⟨rfl, rfl, (rfl : OperandLayout.formatBytes (opcodeMap 0x6D) = 3)⟩
theorem OperandLayout.adcIndy (o8 : Byte) : OperandLayout.Statement (.adcIndy o8) :=
  ⟨rfl, rfl, (rfl : OperandLayout.formatBytes (opcodeMap 0x71) = 2)⟩
theorem OperandLayout.adcZpx (o8 : Byte) : OperandLayout.Statement (.adcZpx o8) :=
  ⟨rfl, rfl, (rfl : OperandLayout.formatBytes (opcodeMap 0x75) = 2)⟩
theorem OperandLayout.adcAbsy (o16 : Word) : OperandLayout.Statement (.adcAbsy o16) :=
  ⟨rfl, rfl, (rfl : OperandLayout.formatBytes (opcodeMap 0x79) = 3)⟩
theorem OperandLayout.adcAbsx (o16 : Word) : OperandLayout.Statement (.adcAbsx o16) :=
  ⟨rfl, rfl, (rfl : OperandLayout.formatBytes (opcodeMap 0x7D) = 3)⟩
theorem OperandLayout.sbcIndx (o8 : Byte) : OperandLayout.Statement (.sbcIndx o8) :=
  ⟨rfl, rfl, (rfl : OperandLayout.formatBytes (opcodeMap 0xE1) = 2)⟩
theorem OperandLayout.sbcZp (o8 : Byte) : OperandLayout.Statement (.sbcZp o8) :=
  ⟨rfl, rfl, (rfl : OperandLayout.formatBytes (opcodeMap 0xE5) = 2)⟩
theorem OperandLayout.sbcImm (o8 : Byte) : OperandLayout.Statement (.sbcImm o8) :=
  ⟨rfl, rfl, (rfl : OperandLayout.formatBytes (opcodeMap 0xE9) = 2)⟩
theorem OperandLayout.sbcAbs (o16 : Word) : OperandLayout.Statement (.sbcAbs o16) :=
  ⟨rfl, rfl, (rfl : OperandLayout.formatBytes (opcodeMap 0xED) = 3)⟩
theorem OperandLayout.sbcIndy (o8 : Byte) : OperandLayout.Statement (.sbcIndy o8) :=
  ⟨rfl, rfl, (rfl : OperandLayout.formatBytes (opcodeMap 0xF1) = 2)⟩
theorem OperandLayout.sbcZpx (o8 : Byte) : OperandLayout.Statement (.sbcZpx o8) :=
  ⟨rfl, rfl, (rfl : OperandLayout.formatBytes (opcodeMap 0xF5) = 2)⟩
theorem OperandLayout.sbcAbsy (o16 : Word) : OperandLayout.Statement (.sbcAbsy o16) :=
  ⟨rfl, rfl, (rfl : OperandLayout.formatBytes (opcodeMap 0xF9) = 3)⟩
theorem OperandLayout.sbcAbsx (o16 : Word) : OperandLayout.Statement (.sbcAbsx o16) :=
  ⟨rfl, rfl, (rfl : OperandLayout.formatBytes (opcodeMap 0xFD) = 3)⟩
theorem OperandLayout.andIndx (o8 : Byte) : OperandLayout.Statement (.andIndx o8) :=
  ⟨rfl, rfl, (rfl : OperandLayout.formatBytes (opcodeMap 0x21) = 2)⟩
theorem OperandLayout.andZp (o8 : Byte) : OperandLayout.Statement (.andZp o8) :=
  ⟨rfl, rfl, (rfl : OperandLayout.formatBytes (opcodeMap 0x25) = 2)⟩
theorem OperandLayout.andImm (o8 : Byte) : OperandLayout.Statement (.andImm o8) :=
  ⟨rfl, rfl, (rfl : OperandLayout.formatBytes (opcodeMap 0x29) = 2)⟩
theorem OperandLayout.andAbs (o16 : Word) : OperandLayout.Statement (.andAbs o16) :=
  ⟨rfl, rfl, (rfl : OperandLayout.formatBytes (opcodeMap 0x2D) = 3)⟩
theorem OperandLayout.andIndy (o8 : Byte) : OperandLayout.Statement (.andIndy o8) :=
  ⟨rfl, rfl, (rfl : OperandLayout.formatBytes (opcodeMap 0x31) = 2)⟩
theorem OperandLayout.andZpx (o8 : Byte) : OperandLayout.Statement (.andZpx o8) :=
  ⟨rfl, rfl, (rfl : OperandLayout.formatBytes (opcodeMap 0x35) = 2)⟩
theorem OperandLayout.andAbsy (o16 : Word) : OperandLayout.Statement (.andAbsy o16) :=
  ⟨rfl, rfl, (rfl : OperandLayout.formatBytes (opcodeMap 0x39) = 3)⟩
theorem OperandLayout.andAbsx (o16 : Word) : OperandLayout.Statement (.andAbsx o16) :=
  ⟨rfl, rfl, (rfl : OperandLayout.formatBytes (opcodeMap 0x3D) = 3)⟩
theorem OperandLayout.oraIndx (o8 : Byte) : OperandLayout.Statement (.oraIndx o8) :=
  ⟨rfl, rfl, (rfl : OperandLayout.formatBytes (opcodeMap 0x01) = 2)⟩
theorem OperandLayout.oraZp (o8 : Byte) : OperandLayout.Statement (.oraZp o8) :=
  ⟨rfl, rfl, (rfl : OperandLayout.formatBytes (opcodeMap 0x05) = 2)⟩
theorem OperandLayout.oraImm (o8 : Byte) : OperandLayout.Statement (.oraImm o8) :=
  ⟨rfl, rfl, (rfl : OperandLayout.formatBytes (opcodeMap 0x09) = 2)⟩
theorem OperandLayout.oraAbs (o16 : Word) : OperandLayout.Statement (.oraAbs o16) :=
  ⟨rfl, rfl, (rfl : OperandLayout.formatBytes (opcodeMap 0x0D) = 3)⟩
theorem OperandLayout.oraIndy (o8 : Byte) : OperandLayout.Statement (.oraIndy o8) :=
  ⟨rfl, rfl, (rfl : OperandLayout.formatBytes (opcodeMap 0x11) = 2)⟩
theorem OperandLayout.oraZpx (o8 : Byte) : OperandLayout.Statement (.oraZpx o8) :=
  ⟨rfl, rfl, (rfl : OperandLayout.formatBytes (opcodeMap 0x15) = 2)⟩
theorem OperandLayout.oraAbsy (o16 : Word) : OperandLayout.Statement (.oraAbsy o16) :=
  ⟨rfl, rfl, (rfl : OperandLayout.formatBytes (opcodeMap 0x19) = 3)⟩
theorem OperandLayout.oraAbsx (o16 : Word) : OperandLayout.Statement (.oraAbsx o16) :=
  ⟨rfl, rfl, (rfl : OperandLayout.formatBytes (opcodeMap 0x1D) = 3)⟩
theorem OperandLayout.eorIndx (o8 : Byte) : OperandLayout.Statement (.eorIndx o8) :=
  ⟨rfl, rfl, (rfl : OperandLayout.formatBytes (opcodeMap 0x41) = 2)⟩
theorem OperandLayout.eorZp (o8 : Byte) : OperandLayout.Statement (.eorZp o8) :=
  ⟨rfl, rfl, (rfl : OperandLayout.formatBytes (opcodeMap 0x45) = 2)⟩
theorem OperandLayout.eorImm (o8 : Byte) : OperandLayout.Statement (.eorImm o8) :=
  ⟨rfl, rfl, (rfl : OperandLayout.formatBytes (opcodeMap 0x49) = 2)⟩
theorem OperandLayout.eorAbs (o16 : Word) : OperandLayout.Statement (.eorAbs o16) :=
  ⟨rfl, rfl, (rfl : OperandLayout.formatBytes (opcodeMap 0x4D) = 3)⟩
theorem OperandLayout.eorIndy (o8 : Byte) : OperandLayout.Statement (.eorIndy o8) :=
  ⟨rfl, rfl, (rfl : OperandLayout.formatBytes (opcodeMap 0x51) = 2)⟩
theorem OperandLayout.eorZpx (o8 : Byte) : OperandLayout.Statement (.eorZpx o8) :=
  ⟨rfl, rfl, (rfl : OperandLayout.formatBytes (opcodeMap 0x55) = 2)⟩
theorem OperandLayout.eorAbsy (o16 : Word) : OperandLayout.Statement (.eorAbsy o16) :=
  ⟨rfl, rfl, (rfl : OperandLayout.formatBytes (opcodeMap 0x59) = 3)⟩
theorem OperandLayout.eorAbsx (o16 : Word) : OperandLayout.Statement (.eorAbsx o16) :=
  ⟨rfl, rfl, (rfl : OperandLayout.formatBytes (opcodeMap 0x5D) = 3)⟩
theorem OperandLayout.cmpIndx (o8 : Byte) : OperandLayout.Statement (.cmpIndx o8) :=
  ⟨rfl, rfl, (rfl : OperandLayout.formatBytes (opcodeMap 0xC1) = 2)⟩
theorem OperandLayout.cmpZp (o8 : Byte) : OperandLayout.Statement (.cmpZp o8) :=
  ⟨rfl, rfl, (rfl : OperandLayout.formatBytes (opcodeMap 0xC5) = 2)⟩
theorem OperandLayout.cmpImm (o8 : Byte) : OperandLayout.Statement (.cmpImm o8) :=
  ⟨rfl, rfl, (rfl : OperandLayout.formatBytes (opcodeMap 0xC9) = 2)⟩
theorem OperandLayout.cmpAbs (o16 : Word) : OperandLayout.Statement (.cmpAbs o16) :=
  ⟨rfl, rfl, (rfl : OperandLayout.formatBytes (opcodeMap 0xCD) = 3)⟩
theorem OperandLayout.cmpIndy (o8 : Byte) : OperandLayout.Statement (.cmpIndy o8) :=
  ⟨rfl, rfl, (rfl : OperandLayout.formatBytes (opcodeMap 0xD1) = 2)⟩
theorem OperandLayout.cmpZpx (o8 : Byte) : OperandLayout.Statement (.cmpZpx o8) :=
  ⟨rfl, rfl, (rfl : OperandLayout.formatBytes (opcodeMap 0xD5) = 2)⟩
theorem OperandLayout.cmpAbsy (o16 : Word) : OperandLayout.Statement (.cmpAbsy o16) :=
  ⟨rfl, rfl, (rfl : OperandLayout.formatBytes (opcodeMap 0xD9) = 3)⟩
theorem OperandLayout.cmpAbsx (o16 : Word) : OperandLayout.Statement (.cmpAbsx o16) :=
  ⟨rfl, rfl, (rfl : OperandLayout.formatBytes (opcodeMap 0xDD) = 3)⟩
theorem OperandLayout.cpxImm (o8 : Byte) : OperandLayout.Statement (.cpxImm o8) :=
  ⟨rfl, rfl, (rfl : OperandLayout.formatBytes (opcodeMap 0xE0) = 2)⟩
theorem OperandLayout.cpxZp (o8 : Byte) : OperandLayout.Statement (.cpxZp o8) :=
  ⟨rfl, rfl, (rfl : OperandLayout.formatBytes (opcodeMap 0xE4) = 2)⟩
theorem OperandLayout.cpxAbs (o16 : Word) : OperandLayout.Statement (.cpxAbs o16) :=
  ⟨rfl, rfl, (rfl : OperandLayout.formatBytes (opcodeMap 0xEC) = 3)⟩
theorem OperandLayout.cpyImm (o8 : Byte) : OperandLayout.Statement (.cpyImm o8) :=
  ⟨rfl, rfl, (rfl : OperandLayout.formatBytes (opcodeMap 0xC0) = 2)⟩
theorem OperandLayout.cpyZp (o8 : Byte) : OperandLayout.Statement (.cpyZp o8) :=
  ⟨rfl, rfl, (rfl : OperandLayout.formatBytes (opcodeMap 0xC4) = 2)⟩
theorem OperandLayout.cpyAbs (o16 : Word) : OperandLayout.Statement (.cpyAbs o16) :=
  ⟨rfl, rfl, (rfl : OperandLayout.formatBytes (opcodeMap 0xCC) = 3)⟩
theorem OperandLayout.bitZp (o8 : Byte) : OperandLayout.Statement (.bitZp o8) :=
  ⟨rfl, rfl, (rfl : OperandLayout.formatBytes (opcodeMap 0x24) = 2)⟩
theorem OperandLayout.bitAbs (o16 : Word) : OperandLayout.Statement (.bitAbs o16) :=
  ⟨rfl, rfl, (rfl : OperandLayout.formatBytes (opcodeMap 0x2C) = 3)⟩
theorem OperandLayout.incZp (o8 : Byte) : OperandLayout.Statement (.incZp o8) :=
  ⟨rfl, rfl, (rfl : OperandLayout.formatBytes (opcodeMap 0xE6) = 2)⟩
theorem OperandLayout.incAbs (o16 : Word) : OperandLayout.Statement (.incAbs o16) :=
  ⟨rfl, rfl, (rfl : OperandLayout.formatBytes (opcodeMap 0xEE) = 3)⟩
theorem OperandLayout.incZpx (o8 : Byte) : OperandLayout.Statement (.incZpx o8) :=
  ⟨rfl, rfl, (rfl : OperandLayout.formatBytes (opcodeMap 0xF6) = 2)⟩
theorem OperandLayout.incAbsx (o16 : Word) : OperandLayout.Statement (.incAbsx o16) :=
  ⟨rfl, rfl, (rfl : OperandLayout.formatBytes (opcodeMap 0xFE) = 3)⟩
theorem OperandLayout.decZp (o8 : Byte) : OperandLayout.Statement (.decZp o8) :=
  ⟨rfl, rfl, (rfl : OperandLayout.formatBytes (opcodeMap 0xC6) = 2)⟩
theorem OperandLayout.decAbs (o16 : Word) : OperandLayout.Statement (.decAbs o16) :=
  ⟨rfl, rfl, (rfl : OperandLayout.formatBytes (opcodeMap 0xCE) = 3)⟩
theorem OperandLayout.decZpx (o8 : Byte) : OperandLayout.Statement (.decZpx o8) :=
  ⟨rfl, rfl, (rfl : OperandLayout.formatBytes (opcodeMap 0xD6) = 2)⟩
theorem OperandLayout.decAbsx (o16 : Word) : OperandLayout.Statement (.decAbsx o16) :=
  ⟨rfl, rfl, (rfl : OperandLayout.formatBytes (opcodeMap 0xDE) = 3)⟩
theorem OperandLayout.inx : OperandLayout.Statement .inx :=
  ⟨rfl, rfl, (rfl : OperandLayout.formatBytes (opcodeMap 0xE8) = 1)⟩
theorem OperandLayout.iny : OperandLayout.Statement .iny :=
  ⟨rfl, rfl, (rfl : OperandLayout.formatBytes (opcodeMap 0xC8) = 1)⟩
theorem OperandLayout.dex : OperandLayout.Statement .dex :=
  ⟨rfl, rfl, (rfl : OperandLayout.formatBytes (opcodeMap 0xCA) = 1)⟩
theorem OperandLayout.dey : OperandLayout.Statement .dey :=
  ⟨rfl, rfl, (rfl : OperandLayout.formatBytes (opcodeMap 0x88) = 1)⟩
theorem OperandLayout.aslZp (o8 : Byte) : OperandLayout.Statement (.aslZp o8) :=
  ⟨rfl, rfl, (rfl : OperandLayout.formatBytes (opcodeMap 0x06) = 2)⟩
theorem OperandLayout.aslAcc : OperandLayout.Statement .aslAcc :=
  ⟨rfl, rfl, (rfl : OperandLayout.formatBytes (opcodeMap 0x0A) = 1)⟩
theorem OperandLayout.aslAbs (o16 : Word) : OperandLayout.Statement (.aslAbs o16) :=
  ⟨rfl, rfl, (rfl : OperandLayout.formatBytes (opcodeMap 0x0E) = 3)⟩
theorem OperandLayout.aslZpx (o8 : Byte) : OperandLayout.Statement (.aslZpx o8) :=
  ⟨rfl, rfl, (rfl : OperandLayout.formatBytes (opcodeMap 0x16) = 2)⟩
theorem OperandLayout.aslAbsx (o16 : Word) : OperandLayout.Statement (.aslAbsx o16) :=
  ⟨rfl, rfl, (rfl : OperandLayout.formatBytes (opcodeMap 0x1E) = 3)⟩
theorem OperandLayout.lsrZp (o8 : Byte) : OperandLayout.Statement (.lsrZp o8) :=
  ⟨rfl, rfl, (rfl : OperandLayout.formatBytes (opcodeMap 0x46) = 2)⟩
theorem OperandLayout.lsrAcc : OperandLayout.Statement .lsrAcc :=
  ⟨rfl, rfl, (rfl : OperandLayout.formatBytes (opcodeMap 0x4A) = 1)⟩
theorem OperandLayout.lsrAbs (o16 : Word) : OperandLayout.Statement (.lsrAbs o16) :=
  ⟨rfl, rfl, (rfl : OperandLayout.formatBytes (opcodeMap 0x4E) = 3)⟩
theorem OperandLayout.lsrZpx (o8 : Byte) : OperandLayout.Statement (.lsrZpx o8) :=
  ⟨rfl, rfl, (rfl : OperandLayout.formatBytes (opcodeMap 0x56) = 2)⟩
theorem OperandLayout.lsrAbsx (o16 : Word) : OperandLayout.Statement (.lsrAbsx o16) :=
  ⟨rfl, rfl, (rfl : OperandLayout.formatBytes (opcodeMap 0x5E) = 3)⟩
theorem OperandLayout.rolZp (o8 : Byte) : OperandLayout.Statement (.rolZp o8) :=
  ⟨rfl, rfl, (rfl : OperandLayout.formatBytes (opcodeMap 0x26) = 2)⟩
theorem OperandLayout.rolAcc : OperandLayout.Statement .rolAcc :=
  ⟨rfl, rfl, (rfl : OperandLayout.formatBytes (opcodeMap 0x2A) = 1)⟩
theorem OperandLayout.rolAbs (o16 : Word) : OperandLayout.Statement (.rolAbs o16) :=
  ⟨rfl, rfl, (rfl : OperandLayout.formatBytes (opcodeMap 0x2E) = 3)⟩
theorem OperandLayout.rolZpx (o8 : Byte) : OperandLayout.Statement (.rolZpx o8) :=
  ⟨rfl, rfl, (rfl : OperandLayout.formatBytes (opcodeMap 0x36) = 2)⟩
theorem OperandLayout.rolAbsx (o16 : Word) : OperandLayout.Statement (.rolAbsx o16) :=
  ⟨rfl, rfl, (rfl : OperandLayout.formatBytes (opcodeMap 0x3E) = 3)⟩
theorem OperandLayout.rorZp (o8 : Byte) : OperandLayout.Statement (.rorZp o8) :=
  ⟨rfl, rfl, (rfl : OperandLayout.formatBytes (opcodeMap 0x66) = 2)⟩
theorem OperandLayout.rorAcc : OperandLayout.Statement .rorAcc :=
  ⟨rfl, rfl, (rfl : OperandLayout.formatBytes (opcodeMap 0x6A) = 1)⟩
theorem OperandLayout.rorAbs (o16 : Word) : OperandLayout.Statement (.rorAbs o16) :=
  ⟨rfl, rfl, (rfl : OperandLayout.formatBytes (opcodeMap 0x6E) = 3)⟩
theorem OperandLayout.rorZpx (o8 : Byte) : OperandLayout.Statement (.rorZpx o8) :=
  ⟨rfl, rfl, (rfl : OperandLayout.formatBytes (opcodeMap 0x76) = 2)⟩
theorem OperandLayout.rorAbsx (o16 : Word) : OperandLayout.Statement (.rorAbsx o16) :=
  ⟨rfl, rfl, (rfl : OperandLayout.formatBytes (opcodeMap 0x7E) = 3)⟩
theorem OperandLayout.jmpAbs (o16 : Word) : OperandLayout.Statement (.jmpAbs o16) :=
  ⟨rfl, rfl, (rfl : OperandLayout.formatBytes (opcodeMap 0x4C) = 3)⟩
theorem OperandLayout.jmpInd (o16 : Word) : OperandLayout.Statement (.jmpInd o16) :=
  ⟨rfl, rfl, (rfl : OperandLayout.formatBytes (opcodeMap 0x6C) = 3)⟩
theorem OperandLayout.jsr (o16 : Word) : OperandLayout.Statement (.jsr o16) :=
  ⟨rfl, rfl, (rfl : OperandLayout.formatBytes (opcodeMap 0x20) = 3)⟩
theorem OperandLayout.rts : OperandLayout.Statement .rts :=
  ⟨rfl, rfl, (rfl : OperandLayout.formatBytes (opcodeMap 0x60) = 1)⟩
theorem OperandLayout.bcc (o8 : Byte) : OperandLayout.Statement (.bcc o8) :=
  ⟨rfl, rfl, (rfl : OperandLayout.formatBytes (opcodeMap 0x90) = 2)⟩
theorem OperandLayout.bcs (o8 : Byte) : OperandLayout.Statement (.bcs o8) :=
  ⟨rfl, rfl, (rfl : OperandLayout.formatBytes (opcodeMap 0xB0) = 2)⟩
theorem OperandLayout.beq (o8 : Byte) : OperandLayout.Statement (.beq o8) :=
  ⟨rfl, rfl, (rfl : OperandLayout.formatBytes (opcodeMap 0xF0) = 2)⟩
theorem OperandLayout.bne (o8 : Byte) : OperandLayout.Statement (.bne o8) :=
  ⟨rfl, rfl, (rfl : OperandLayout.formatBytes (opcodeMap 0xD0) = 2)⟩
theorem OperandLayout.bmi (o8 : Byte) : OperandLayout.Statement (.bmi o8) :=
  ⟨rfl, rfl, (rfl : OperandLayout.formatBytes (opcodeMap 0x30) = 2)⟩
theorem OperandLayout.bpl (o8 : Byte) : OperandLayout.Statement (.bpl o8) :=
  ⟨rfl, rfl, (rfl : OperandLayout.formatBytes (opcodeMap 0x10) = 2)⟩
theorem OperandLayout.bvc (o8 : Byte) : OperandLayout.Statement (.bvc o8) :=
  ⟨rfl, rfl, (rfl : OperandLayout.formatBytes (opcodeMap 0x50) = 2)⟩
theorem OperandLayout.bvs (o8 : Byte) : OperandLayout.Statement (.bvs o8) :=
  ⟨rfl, rfl, (rfl : OperandLayout.formatBytes (opcodeMap 0x70) = 2)⟩
theorem OperandLayout.clc : OperandLayout.Statement .clc :=
  ⟨rfl, rfl, (rfl : OperandLayout.formatBytes (opcodeMap 0x18) = 1)⟩
theorem OperandLayout.sec : OperandLayout.Statement .sec :=
  ⟨rfl, rfl, (rfl : OperandLayout.formatBytes (opcodeMap 0x38) = 1)⟩
theorem OperandLayout.cli : OperandLayout.Statement .cli :=
  ⟨rfl, rfl, (rfl : OperandLayout.formatBytes (opcodeMap 0x58) = 1)⟩
theorem OperandLayout.sei : OperandLayout.Statement .sei :=
  ⟨rfl, rfl, (rfl : OperandLayout.formatBytes (opcodeMap 0x78) = 1)⟩
theorem OperandLayout.cld : OperandLayout.Statement .cld :=
  ⟨rfl, rfl, (rfl : OperandLayout.formatBytes (opcodeMap 0xD8) = 1)⟩
theorem OperandLayout.sed : OperandLayout.Statement .sed :=
  ⟨rfl, rfl, (rfl : OperandLayout.formatBytes (opcodeMap 0xF8) = 1)⟩
theorem OperandLayout.clv : OperandLayout.Statement .clv :=
  ⟨rfl, rfl, (rfl : OperandLayout.formatBytes (opcodeMap 0xB8) = 1)⟩
theorem OperandLayout.nop : OperandLayout.Statement .nop :=
  ⟨rfl, rfl, (rfl : OperandLayout.formatBytes (opcodeMap 0xEA) = 1)⟩
theorem OperandLayout.brk : OperandLayout.Statement .brk :=
  ⟨rfl, rfl, (rfl : OperandLayout.formatBytes (opcodeMap 0x00) = 1)⟩
theorem OperandLayout.rti : OperandLayout.Statement .rti :=
  ⟨rfl, rfl, (rfl : OperandLayout.formatBytes (opcodeMap 0x40) = 1)⟩

end Sys2Proof.Laws
end

