-- ==== Sys2Proof/Laws/Stack.lean ====
section
/-! SUPPORT. The terms of the stack claims (slots, pushed and pulled RAM, the checks) as the stack operations use them. -/

namespace Sys2Proof.Machine

variable (s : State)

/-! ## The slots -/

theorem pushSlot_zero : pushSlot s 0 = 256 + s.cpu.s.toNat := by
  have := s.cpu.s.isLt
  simp only [pushSlot]
  omega

theorem pushSlot_one : pushSlot s 1 = 256 + (s.cpu.s - 1).toNat := by
  simp [pushSlot, BitVec.toNat_sub]
  omega

theorem pushSlot_two : pushSlot s 2 = 256 + (s.cpu.s - 1 - 1).toNat := by
  simp [pushSlot, BitVec.toNat_sub]
  omega

/-! ## The RAM after pushes -/

@[simp] theorem pushedOn_nil (k : Nat) (m : Memory) : pushedOn s k [] m = m := rfl

@[simp] theorem pushedOn_cons (k : Nat) (b : Byte) (bs : List Byte) (m : Memory) :
    pushedOn s k (b :: bs) m = pushedOn s (k + 1) bs (cellWrite m (pushSlot s k) b) := rfl

theorem pushedRam_one (a : Byte) : pushedRam s 0 [a] = cellWrite s.ram (256 + s.cpu.s.toNat) a := by
  simp [pushedRam, pushSlot_zero]

theorem pushedRam_two (a b : Byte) : pushedRam s 0 [a, b] =
    cellWrite (cellWrite s.ram (256 + s.cpu.s.toNat) a) (256 + (s.cpu.s - 1).toNat) b := by
  simp [pushedRam, pushSlot_zero, pushSlot_one]

theorem pushedRam_three (a b c : Byte) : pushedRam s 0 [a, b, c] =
    cellWrite (cellWrite (cellWrite s.ram (256 + s.cpu.s.toNat) a) (256 + (s.cpu.s - 1).toNat) b)
      (256 + (s.cpu.s - 1 - 1).toNat) c := by
  simp [pushedRam, pushSlot_zero, pushSlot_one, pushSlot_two]

/-- A pushed status byte (R36) as a number: the flags in their places, bit 5 set, bit 4 as given. -/
theorem statusByteWith_eq (p : Status) (b : Bool) : statusByteWith p b = BitVec.ofNat 8 (statusValue p b) := by
  have h : ∀ n v b' d i z c b : Bool, statusByteWith ⟨n, v, b', d, i, z, c⟩ b =
      BitVec.ofNat 8 (statusValue ⟨n, v, b', d, i, z, c⟩ b) := by decide
  exact h ..

/-! ## The checks -/

/-- The check of R124 in the claims' words. -/
theorem pushFails_eq_false (k : Nat) : pushFails s k = false ↔ pushOk s k := by
  unfold pushFails pushOk
  cases h : s.params.stackPolicy <;> simp

/-- The check of R124 in the claims' words, for at most 255 pulls. -/
theorem pullFails_eq_false {k : Nat} (hk : k ≤ 0xFF) : pullFails s k = false ↔ pullOk s k := by
  unfold pullFails pullOk
  cases h : s.params.stackPolicy <;> simp
  omega

end Sys2Proof.Machine
end

