-- ==== Sys2Proof/Tests/Slice0.lean ====
section
/-! SUPPORT. Tests of the model against values from outside it (the vectors S and V of 95_test_vectors.md, the listing
R204), the well-formedness smoke test, and a witness for the hypotheses of every obligation that has any. -/

namespace Sys2Proof.Tests

open Sys2Proof Sys2Proof.Machine

/-! ## Small states -/

/-- Every flag clear. -/
def noFlags : Status := { n := false, v := false, b := false, d := false, i := false, z := false, c := false }

/-- Registers at 0 but `S` = $FD, at $8000. -/
def regs : Cpu := { a := 0, x := 0, y := 0, s := 0xFD, p := noFlags, pc := 0x8000, lastPC := 0x8000 }

/-- The reset machine with the given registers and RAM. -/
def machine (c : Cpu) (ram : Memory) : State := { State.reset with cpu := c, ram := ram }

/-- `regs` with a chosen `A`, `X`, `Y`. -/
def axy (a x y : Byte) : Cpu := { regs with a := a, x := x, y := y }

/-- The state an instruction leaves, if it leaves one. -/
def after (i : Instr) (s : State) : Option State :=
  match exec i s with
  | .next t => some t
  | _ => none

/-- The state a loop step leaves, if it leaves one. -/
def stepped (s : State) : Option State :=
  match step s with
  | .next t => some t
  | _ => none

/-- N, V, Z, C of a state. -/
def nvzc (s : State) : Bool × Bool × Bool × Bool := (s.cpu.p.n, s.cpu.p.v, s.cpu.p.z, s.cpu.p.c)

/-- `A` and N, V, Z, C after an instruction on `A` = `a` and carry `c`. -/
def onA (i : Instr) (a : Byte) (c : Bool) : Option (Byte × Bool × Bool × Bool × Bool) :=
  (after i (machine { axy a 0 0 with p := { noFlags with c := c } } [])).map fun t => (t.cpu.a, nvzc t)

/-- A machine with a mapper and PRG bytes. -/
def withCart (m : Mapper) (n : Nat) (prg : Memory) : State :=
  { machine regs [] with mapper := m, cart := { Cartridge.blank with nPrg := n, prg := prg } }

/-- The PPU position set. -/
def atDot (l d : Nat) (s : State) : State := s.withPpu { s.ppu with scanline := l, dot := d }

/-! ## Well-formedness (R212): the one check refuses an opcode taken out of the wired set -/

/-- LDA immediate is not wired when $A9 is taken out, and is with the default parameters. -/
theorem test_wellFormed_refuses_unwired :
    (Instr.ldaImm 5).wellFormed { Params.default with unwired := [0xA9] } = false ∧
    (Instr.ldaZp 5).wellFormed { Params.default with unwired := [0xA9] } = true ∧
    (Instr.ldaImm 5).wellFormed Params.default = true := by decide

/-- The loop step faults on the opcode taken out (R251, R212). -/
theorem test_step_unwired_parameter :
    (stepped { machine { regs with pc := 0 } [(0, 0xA9)] with params := { Params.default with unwired := [0xA9] } }).map
      (·.fault) = some (some (.unimplementedOpcode 0xA9 0)) := by decide

/-! ## Decoding: every row of R204, by a word written out from the listing -/

/-- The words of R204's loads. -/
theorem test_decode_loads :
    decode [0xA0, 0x12] = .ok (.ldyImm 0x12, []) ∧ decode [0xA1, 0x12] = .ok (.ldaIndx 0x12, []) ∧
    decode [0xA2, 0x12] = .ok (.ldxImm 0x12, []) ∧ decode [0xA4, 0x12] = .ok (.ldyZp 0x12, []) ∧
    decode [0xA5, 0x12] = .ok (.ldaZp 0x12, []) ∧ decode [0xA6, 0x12] = .ok (.ldxZp 0x12, []) ∧
    decode [0xA9, 0x12] = .ok (.ldaImm 0x12, []) ∧ decode [0xAC, 0x34, 0x12] = .ok (.ldyAbs 0x1234, []) ∧
    decode [0xAD, 0x34, 0x12] = .ok (.ldaAbs 0x1234, []) ∧ decode [0xAE, 0x34, 0x12] = .ok (.ldxAbs 0x1234, []) ∧
    decode [0xB1, 0x12] = .ok (.ldaIndy 0x12, []) ∧ decode [0xB4, 0x12] = .ok (.ldyZpx 0x12, []) ∧
    decode [0xB5, 0x12] = .ok (.ldaZpx 0x12, []) ∧ decode [0xB6, 0x12] = .ok (.ldxZpy 0x12, []) ∧
    decode [0xB9, 0x34, 0x12] = .ok (.ldaAbsy 0x1234, []) ∧ decode [0xBC, 0x34, 0x12] = .ok (.ldyAbsx 0x1234, []) ∧
    decode [0xBD, 0x34, 0x12] = .ok (.ldaAbsx 0x1234, []) ∧
    decode [0xBE, 0x34, 0x12] = .ok (.ldxAbsy 0x1234, []) := by
  repeat' constructor

/-- The words of R204's stores. -/
theorem test_decode_stores :
    decode [0x81, 0x12] = .ok (.staIndx 0x12, []) ∧ decode [0x84, 0x12] = .ok (.styZp 0x12, []) ∧
    decode [0x85, 0x12] = .ok (.staZp 0x12, []) ∧ decode [0x86, 0x12] = .ok (.stxZp 0x12, []) ∧
    decode [0x8C, 0x34, 0x12] = .ok (.styAbs 0x1234, []) ∧ decode [0x8D, 0x34, 0x12] = .ok (.staAbs 0x1234, []) ∧
    decode [0x8E, 0x34, 0x12] = .ok (.stxAbs 0x1234, []) ∧ decode [0x91, 0x12] = .ok (.staIndy 0x12, []) ∧
    decode [0x94, 0x12] = .ok (.styZpx 0x12, []) ∧ decode [0x95, 0x12] = .ok (.staZpx 0x12, []) ∧
    decode [0x96, 0x12] = .ok (.stxZpy 0x12, []) ∧ decode [0x99, 0x34, 0x12] = .ok (.staAbsy 0x1234, []) ∧
    decode [0x9D, 0x34, 0x12] = .ok (.staAbsx 0x1234, []) := by
  repeat' constructor

/-- The words of R204's transfers. -/
theorem test_decode_transfers :
    decode [0x88] = .ok (.dey, []) ∧ decode [0x8A] = .ok (.txa, []) ∧ decode [0x98] = .ok (.tya, []) ∧
    decode [0x9A] = .ok (.txs, []) ∧ decode [0xA8] = .ok (.tay, []) ∧ decode [0xAA] = .ok (.tax, []) ∧
    decode [0xBA] = .ok (.tsx, []) ∧ decode [0xC8] = .ok (.iny, []) ∧ decode [0xCA] = .ok (.dex, []) ∧
    decode [0xE8] = .ok (.inx, []) := by
  repeat' constructor

/-- The words of R204's arithmetic. -/
theorem test_decode_arithmetic :
    decode [0x61, 0x12] = .ok (.adcIndx 0x12, []) ∧ decode [0x65, 0x12] = .ok (.adcZp 0x12, []) ∧
    decode [0x69, 0x12] = .ok (.adcImm 0x12, []) ∧ decode [0x6D, 0x34, 0x12] = .ok (.adcAbs 0x1234, []) ∧
    decode [0x71, 0x12] = .ok (.adcIndy 0x12, []) ∧ decode [0x75, 0x12] = .ok (.adcZpx 0x12, []) ∧
    decode [0x79, 0x34, 0x12] = .ok (.adcAbsy 0x1234, []) ∧ decode [0x7D, 0x34, 0x12] = .ok (.adcAbsx 0x1234, []) ∧
    decode [0xE1, 0x12] = .ok (.sbcIndx 0x12, []) ∧ decode [0xE5, 0x12] = .ok (.sbcZp 0x12, []) ∧
    decode [0xE9, 0x12] = .ok (.sbcImm 0x12, []) ∧ decode [0xED, 0x34, 0x12] = .ok (.sbcAbs 0x1234, []) ∧
    decode [0xF1, 0x12] = .ok (.sbcIndy 0x12, []) ∧ decode [0xF5, 0x12] = .ok (.sbcZpx 0x12, []) ∧
    decode [0xF9, 0x34, 0x12] = .ok (.sbcAbsy 0x1234, []) ∧
    decode [0xFD, 0x34, 0x12] = .ok (.sbcAbsx 0x1234, []) := by
  repeat' constructor

/-- The words of R204's logic. -/
theorem test_decode_logic :
    decode [0x01, 0x12] = .ok (.oraIndx 0x12, []) ∧ decode [0x05, 0x12] = .ok (.oraZp 0x12, []) ∧
    decode [0x09, 0x12] = .ok (.oraImm 0x12, []) ∧ decode [0x0D, 0x34, 0x12] = .ok (.oraAbs 0x1234, []) ∧
    decode [0x11, 0x12] = .ok (.oraIndy 0x12, []) ∧ decode [0x15, 0x12] = .ok (.oraZpx 0x12, []) ∧
    decode [0x19, 0x34, 0x12] = .ok (.oraAbsy 0x1234, []) ∧ decode [0x1D, 0x34, 0x12] = .ok (.oraAbsx 0x1234, []) ∧
    decode [0x21, 0x12] = .ok (.andIndx 0x12, []) ∧ decode [0x25, 0x12] = .ok (.andZp 0x12, []) ∧
    decode [0x29, 0x12] = .ok (.andImm 0x12, []) ∧ decode [0x2D, 0x34, 0x12] = .ok (.andAbs 0x1234, []) ∧
    decode [0x31, 0x12] = .ok (.andIndy 0x12, []) ∧ decode [0x35, 0x12] = .ok (.andZpx 0x12, []) ∧
    decode [0x39, 0x34, 0x12] = .ok (.andAbsy 0x1234, []) ∧ decode [0x3D, 0x34, 0x12] = .ok (.andAbsx 0x1234, []) ∧
    decode [0x41, 0x12] = .ok (.eorIndx 0x12, []) ∧ decode [0x45, 0x12] = .ok (.eorZp 0x12, []) ∧
    decode [0x49, 0x12] = .ok (.eorImm 0x12, []) ∧ decode [0x4D, 0x34, 0x12] = .ok (.eorAbs 0x1234, []) ∧
    decode [0x51, 0x12] = .ok (.eorIndy 0x12, []) ∧ decode [0x55, 0x12] = .ok (.eorZpx 0x12, []) ∧
    decode [0x59, 0x34, 0x12] = .ok (.eorAbsy 0x1234, []) ∧
    decode [0x5D, 0x34, 0x12] = .ok (.eorAbsx 0x1234, []) := by
  repeat' constructor

/-- The words of R204's compares. -/
theorem test_decode_compares :
    decode [0x24, 0x12] = .ok (.bitZp 0x12, []) ∧ decode [0x2C, 0x34, 0x12] = .ok (.bitAbs 0x1234, []) ∧
    decode [0xC0, 0x12] = .ok (.cpyImm 0x12, []) ∧ decode [0xC1, 0x12] = .ok (.cmpIndx 0x12, []) ∧
    decode [0xC4, 0x12] = .ok (.cpyZp 0x12, []) ∧ decode [0xC5, 0x12] = .ok (.cmpZp 0x12, []) ∧
    decode [0xC9, 0x12] = .ok (.cmpImm 0x12, []) ∧ decode [0xCC, 0x34, 0x12] = .ok (.cpyAbs 0x1234, []) ∧
    decode [0xCD, 0x34, 0x12] = .ok (.cmpAbs 0x1234, []) ∧ decode [0xD1, 0x12] = .ok (.cmpIndy 0x12, []) ∧
    decode [0xD5, 0x12] = .ok (.cmpZpx 0x12, []) ∧ decode [0xD9, 0x34, 0x12] = .ok (.cmpAbsy 0x1234, []) ∧
    decode [0xDD, 0x34, 0x12] = .ok (.cmpAbsx 0x1234, []) ∧ decode [0xE0, 0x12] = .ok (.cpxImm 0x12, []) ∧
    decode [0xE4, 0x12] = .ok (.cpxZp 0x12, []) ∧ decode [0xEC, 0x34, 0x12] = .ok (.cpxAbs 0x1234, []) := by
  repeat' constructor

/-- The words of R204's increments. -/
theorem test_decode_increments :
    decode [0xC6, 0x12] = .ok (.decZp 0x12, []) ∧ decode [0xCE, 0x34, 0x12] = .ok (.decAbs 0x1234, []) ∧
    decode [0xD6, 0x12] = .ok (.decZpx 0x12, []) ∧ decode [0xDE, 0x34, 0x12] = .ok (.decAbsx 0x1234, []) ∧
    decode [0xE6, 0x12] = .ok (.incZp 0x12, []) ∧ decode [0xEE, 0x34, 0x12] = .ok (.incAbs 0x1234, []) ∧
    decode [0xF6, 0x12] = .ok (.incZpx 0x12, []) ∧ decode [0xFE, 0x34, 0x12] = .ok (.incAbsx 0x1234, []) := by
  repeat' constructor

/-- The words of R204's shifts. -/
theorem test_decode_shifts :
    decode [0x06, 0x12] = .ok (.aslZp 0x12, []) ∧ decode [0x0A] = .ok (.aslAcc, []) ∧
    decode [0x0E, 0x34, 0x12] = .ok (.aslAbs 0x1234, []) ∧ decode [0x16, 0x12] = .ok (.aslZpx 0x12, []) ∧
    decode [0x1E, 0x34, 0x12] = .ok (.aslAbsx 0x1234, []) ∧ decode [0x26, 0x12] = .ok (.rolZp 0x12, []) ∧
    decode [0x2A] = .ok (.rolAcc, []) ∧ decode [0x2E, 0x34, 0x12] = .ok (.rolAbs 0x1234, []) ∧
    decode [0x36, 0x12] = .ok (.rolZpx 0x12, []) ∧ decode [0x3E, 0x34, 0x12] = .ok (.rolAbsx 0x1234, []) ∧
    decode [0x46, 0x12] = .ok (.lsrZp 0x12, []) ∧ decode [0x4A] = .ok (.lsrAcc, []) ∧
    decode [0x4E, 0x34, 0x12] = .ok (.lsrAbs 0x1234, []) ∧ decode [0x56, 0x12] = .ok (.lsrZpx 0x12, []) ∧
    decode [0x5E, 0x34, 0x12] = .ok (.lsrAbsx 0x1234, []) ∧ decode [0x66, 0x12] = .ok (.rorZp 0x12, []) ∧
    decode [0x6A] = .ok (.rorAcc, []) ∧ decode [0x6E, 0x34, 0x12] = .ok (.rorAbs 0x1234, []) ∧
    decode [0x76, 0x12] = .ok (.rorZpx 0x12, []) ∧ decode [0x7E, 0x34, 0x12] = .ok (.rorAbsx 0x1234, []) := by
  repeat' constructor

/-- The words of R204's control. -/
theorem test_decode_control :
    decode [0x10, 0x12] = .ok (.bpl 0x12, []) ∧ decode [0x20, 0x34, 0x12] = .ok (.jsr 0x1234, []) ∧
    decode [0x30, 0x12] = .ok (.bmi 0x12, []) ∧ decode [0x4C, 0x34, 0x12] = .ok (.jmpAbs 0x1234, []) ∧
    decode [0x50, 0x12] = .ok (.bvc 0x12, []) ∧ decode [0x60] = .ok (.rts, []) ∧
    decode [0x6C, 0x34, 0x12] = .ok (.jmpInd 0x1234, []) ∧ decode [0x70, 0x12] = .ok (.bvs 0x12, []) ∧
    decode [0x90, 0x12] = .ok (.bcc 0x12, []) ∧ decode [0xB0, 0x12] = .ok (.bcs 0x12, []) ∧
    decode [0xD0, 0x12] = .ok (.bne 0x12, []) ∧ decode [0xF0, 0x12] = .ok (.beq 0x12, []) := by
  repeat' constructor

/-- The words of R204's system. -/
theorem test_decode_system :
    decode [0x00] = .ok (.brk, []) ∧ decode [0x08] = .ok (.php, []) ∧ decode [0x18] = .ok (.clc, []) ∧
    decode [0x28] = .ok (.plp, []) ∧ decode [0x38] = .ok (.sec, []) ∧ decode [0x40] = .ok (.rti, []) ∧
    decode [0x48] = .ok (.pha, []) ∧ decode [0x58] = .ok (.cli, []) ∧ decode [0x68] = .ok (.pla, []) ∧
    decode [0x78] = .ok (.sei, []) ∧ decode [0xB8] = .ok (.clv, []) ∧ decode [0xD8] = .ok (.cld, []) ∧
    decode [0xEA] = .ok (.nop, []) ∧ decode [0xF8] = .ok (.sed, []) := by
  repeat' constructor
/-- The table numbering of spec/opcode_table.json: the first byte in bits 7..0 (R200). -/
theorem test_decodeTableWord :
    decodeTableWord 8 0xEA = some .nop ∧ decodeTableWord 16 0x05A9 = some (.ldaImm 5) ∧
    decodeTableWord 24 0x02008D = some (.staAbs 0x0200) ∧ decodeTableWord 8 0xA9 = some (.ldaImm 0) ∧
    decodeTableWord 8 0x02 = none := by decide

/-- A placed word is what the next step runs (log entry 10). -/
theorem test_withFetchWord :
    (stepped (State.reset.withFetchWord 16 0x05A9)).map (fun t => (t.cpu.a, t.cpu.pc, t.fault)) =
      some (0x05, 0x0002, none) := by decide

/-! ## Loads, stores, transfers (V1 to V14, S3, S10) -/

theorem test_lda_imm_flags :
    (after (.ldaImm 0x00) (machine regs [])).map (fun t => (t.cpu.a, nvzc t, t.cycles)) =
      some (0x00, (false, false, true, false), 9) ∧
    (after (.ldaImm 0x80) (machine regs [])).map (fun t => (t.cpu.a, nvzc t)) =
      some (0x80, (true, false, false, false)) := by decide

theorem test_ldx_zp : (after (.ldxZp 0x10) (machine regs [(0x10, 0x7F)])).map (fun t => (t.cpu.x, nvzc t, t.cycles)) =
    some (0x7F, (false, false, false, false), 10) := by decide

theorem test_ldx_absy_page_cross :
    (after (.ldxAbsy 0x0300) (machine (axy 0 0 5) [(0x305, 0xFF)])).map (fun t => (t.cpu.x, t.cycles)) = some (0xFF, 11) ∧
    (after (.ldxAbsy 0x03FF) (machine (axy 0 0 1) [])).map (fun t => (t.cpu.x, t.cpu.p.z, t.cycles)) =
      some (0x00, true, 12) := by decide

theorem test_ldy_zpx_wraps :
    (after (.ldyZpx 0xFF) (machine (axy 0 0x10 0) [(0x0F, 0x42)])).map (·.cpu.y) = some 0x42 := by decide

theorem test_zero_page_indexed_wrap :
    (after (.ldaZpx 0xFF) (machine (axy 0 2 0) [(1, 0x77)])).map (·.cpu.a) = some 0x77 ∧
    (after (.ldxZpy 0xFF) (machine (axy 0 0 2) [(1, 0x77)])).map (·.cpu.x) = some 0x77 := by decide

theorem test_lda_indx_pointer_wraps :
    (after (.ldaIndx 0xFE) (machine (axy 0 1 0) [(0x00, 0x12), (0xFF, 0x34), (0x1234 % 0x800, 0x77)])).map (·.cpu.a) =
      some 0x77 := by decide

theorem test_sta_abs :
    (after (.staAbs 0x0200) (machine { regs with p := { noFlags with n := true } } [(0x200, 0x99)])).map
      (fun t => (t.ram, nvzc t, t.cycles)) = some ([], (true, false, false, false), 11) := by decide

theorem test_sta_indy :
    (after (.staIndy 0x20) (machine (axy 0x55 0 0x10) [(0x20, 0xF8), (0x21, 0x02)])).map
      (fun t => (cellRead t.ram 0x308, t.cycles)) = some (0x55, 13) := by decide

theorem test_stx_zpy : (after (.stxZpy 0xFF) (machine (axy 0 0x80 2) [])).map (·.ram) = some [(1, 0x80)] := by decide

theorem test_sty_zpx : (after (.styZpx 0xFF) (machine (axy 0 2 0x80) [])).map (·.ram) = some [(1, 0x80)] := by decide

theorem test_transfers :
    (after .tax (machine (axy 0 9 0) [])).map (fun t => (t.cpu.x, nvzc t)) = some (0, (false, false, true, false)) ∧
    (after .tay (machine (axy 0xC3 0 0) [])).map (fun t => (t.cpu.y, nvzc t)) = some (0xC3, (true, false, false, false)) ∧
    (after .tsx (machine regs [])).map (fun t => (t.cpu.x, nvzc t)) = some (0xFD, (true, false, false, false)) ∧
    (after .txa (machine (axy 1 2 3) [])).map (·.cpu.a) = some 2 ∧
    (after .tya (machine (axy 1 2 3) [])).map (·.cpu.a) = some 3 := by
  and_intros <;> decide

theorem test_txs_no_flags :
    (after .txs (machine { regs with p := { noFlags with n := true } } [])).map (fun t => (t.cpu.s, nvzc t)) =
      some (0x00, (true, false, false, false)) := by decide

/-- V14: `STA $3FF8,X` with `X` = 1 reaches port $2001. -/
theorem test_sta_port_mirror :
    (after (.staAbsx 0x3FF8) (machine (axy 0x1E 1 0) [])).map (fun t => (t.ppu.mask, t.cycles)) = some (0x1E, 12) := by
  decide

/-! ## Stack (V20 to V27, S2) -/

theorem test_pha : (after .pha (machine (axy 0x34 0 0) [])).map (fun t => (t.ram, t.cpu.s, t.cycles)) =
    some ([(0x1FD, 0x34)], 0xFC, 10) := by decide

theorem test_pha_overflow :
    (after .pha (machine { regs with s := 0 } [])).map (fun t => (t.fault, t.ram, t.cycles, t.cpu.pc, t.cpu.lastPC)) =
      some (some (.stackOverflow 0 0x8000), [], 7, 0x8001, 0x8000) := by decide

theorem test_php :
    (after .php (machine { regs with s := 0xFF, p := { noFlags with n := true, c := true } } [])).map
      (fun t => (t.ram, t.cpu.s)) = some ([(0x1FF, 0xB1)], 0xFE) := by decide

theorem test_pla :
    (after .pla (machine { axy 9 0 0 with s := 0xFC } [])).map (fun t => (t.cpu.a, nvzc t, t.cpu.s, t.cycles)) =
      some (0, (false, false, true, false), 0xFD, 11) ∧
    (after .pla (machine { axy 9 0 0 with s := 0xFF } [])).map (fun t => (t.cpu.a, t.cpu.s, t.fault)) =
      some (9, 0xFF, some (.stackUnderflow 0xFF 0x8000)) := by decide

theorem test_plp :
    (after .plp (machine { regs with s := 0xFE } [(0x1FF, 0xCB)])).map (·.cpu.p) =
      some { n := true, v := true, b := false, d := true, i := false, z := true, c := true } ∧
    (after .plp (machine { regs with s := 0xFE } [(0x1FF, 0xCB)])).map (fun t => statusByte t.cpu.p) = some 0xEB := by decide

theorem test_pha_wraps :
    ((after .pha { machine { axy 7 0 0 with s := 0x00 } [] with params := { Params.default with stackPolicy := .wrap } }).map
      fun t => (t.ram, t.cpu.s)) = some ([(0x100, 7)], 0xFF) := by decide

theorem test_push_pull_word :
    (push16 0x1234 (machine { regs with s := 0xFF } [])).ram = [(0x1FE, 0x34), (0x1FF, 0x12)] ∧
    (pull16 (push16 0x1234 (machine { regs with s := 0xFF } []))).1 = 0x1234 := by decide

/-! ## Arithmetic (V30 to V49) -/

theorem test_adc :
    onA (.adcImm 0x10) 0x50 false = some (0x60, false, false, false, false) ∧
    onA (.adcImm 0x50) 0x50 false = some (0xA0, true, true, false, false) ∧
    onA (.adcImm 0x90) 0xD0 false = some (0x60, false, true, false, true) ∧
    onA (.adcImm 0x00) 0xFF true = some (0x00, false, false, true, true) ∧
    onA (.adcImm 0xFF) 0x80 false = some (0x7F, false, true, false, true) := by
  and_intros <;> decide

theorem test_sbc :
    onA (.sbcImm 0xB0) 0x50 true = some (0xA0, true, true, false, false) ∧
    onA (.sbcImm 0x01) 0x80 true = some (0x7F, false, true, false, true) ∧
    onA (.sbcImm 0x05) 0x05 true = some (0x00, false, false, true, true) ∧
    onA (.sbcImm 0xFF) 0x00 false = some (0x00, false, false, true, false) ∧
    onA (.sbcImm 0x30) 0xD0 true = some (0xA0, true, false, false, true) := by
  and_intros <;> decide

theorem test_cmp :
    onA (.cmpImm 0x40) 0x40 false = some (0x40, false, false, true, true) ∧
    onA (.cmpImm 0x41) 0x40 true = some (0x40, true, false, false, false) ∧
    onA (.cmpImm 0x80) 0x00 true = some (0x00, true, false, false, false) ∧
    onA (.cmpImm 0xFF) 0x00 true = some (0x00, false, false, false, false) := by
  and_intros <;> decide

theorem test_cpx_cpy :
    (after (.cpxImm 0x40) (machine (axy 0 0x41 0) [])).map nvzc = some (false, false, false, true) ∧
    (after (.cpyImm 0x00) (machine (axy 0 0 0x80) [])).map nvzc = some (true, false, false, true) := by decide

/-! ## Logic, BIT, increment, decrement (V60 to V70) -/

theorem test_logic :
    onA (.andImm 0x0F) 0xF0 false = some (0x00, false, false, true, false) ∧
    onA (.oraImm 0x80) 0x0F false = some (0x8F, true, false, false, false) ∧
    onA (.eorImm 0xFF) 0xFF false = some (0x00, false, false, true, false) := by decide

theorem test_bit :
    (after (.bitZp 0x10) (machine (axy 0x0F 0 0) [(0x10, 0xC0)])).map (fun t => (t.cpu.a, nvzc t)) =
      some (0x0F, (true, true, true, false)) ∧
    (after (.bitZp 0x10) (machine (axy 0xFF 0 0) [(0x10, 0x3F)])).map nvzc = some (false, false, false, false) := by decide

theorem test_inc_dec_memory :
    (after (.incZp 0x10) (machine regs [(0x10, 0xFF)])).map (fun t => (t.ram, nvzc t, t.cycles)) =
      some ([], (false, false, true, false), 12) ∧
    (after (.decZp 0x10) (machine regs [])).map (fun t => (t.ram, nvzc t)) =
      some ([(0x10, 0xFF)], (true, false, false, false)) := by
  and_intros <;> decide

theorem test_inc_dec_registers :
    (after .inx (machine (axy 0 0xFF 0) [])).map (fun t => (t.cpu.x, nvzc t)) = some (0, (false, false, true, false)) ∧
    (after .iny (machine (axy 0 0 0x7F) [])).map (fun t => (t.cpu.y, nvzc t)) = some (0x80, (true, false, false, false)) ∧
    (after .dex (machine regs [])).map (fun t => (t.cpu.x, nvzc t)) = some (0xFF, (true, false, false, false)) ∧
    (after .dey (machine (axy 0 0 1) [])).map (fun t => (t.cpu.y, nvzc t)) = some (0, (false, false, true, false)) := by
  and_intros <;> decide

/-! ## Shifts and rotates (V80 to V87) -/

theorem test_shifts_accumulator :
    onA .aslAcc 0x80 false = some (0x00, false, false, true, true) ∧
    onA .aslAcc 0x41 false = some (0x82, true, false, false, false) ∧
    onA .lsrAcc 0xFF false = some (0x7F, false, false, false, true) ∧
    onA .rolAcc 0x80 false = some (0x00, false, false, true, true) ∧
    onA .rolAcc 0x00 true = some (0x01, false, false, false, false) ∧
    onA .rorAcc 0x01 true = some (0x80, true, false, false, true) := by
  and_intros <;> decide

theorem test_shifts_memory :
    (after (.lsrZp 0x10) (machine regs [(0x10, 0x01)])).map (fun t => (t.ram, nvzc t, t.cycles)) =
      some ([], (false, false, true, true), 12) ∧
    (after (.rorAbs 0x0200) (machine regs [(0x200, 0x02)])).map (fun t => (t.ram, nvzc t, t.cycles)) =
      some ([(0x200, 0x01)], (false, false, false, false), 13) := by
  and_intros <;> decide

/-! ## Control flow (V90 to V103) -/

theorem test_jmp :
    (after (.jmpAbs 0xC000) (machine regs [])).map (fun t => (t.cpu.pc, t.cycles)) = some (0xC000, 10) ∧
    (after (.jmpInd 0x00FF) (machine regs [(0x00, 0x12), (0xFF, 0x34), (0x100, 0x56)])).map
      (fun t => (t.cpu.pc, t.cycles)) = some (0x1234, 12) := by decide

theorem test_jsr :
    (after (.jsr 0x8010) (machine { regs with s := 0xFF, pc := 0x8008 } [])).map
      (fun t => (t.ram, t.cpu.s, t.cpu.pc, t.cycles)) =
      some ([(0x1FE, 0x0A), (0x1FF, 0x80)], 0xFD, 0x8010, 13) ∧
    (after (.jsr 0x8010) (machine { regs with s := 1 } [])).map (fun t => (t.ram, t.fault)) =
      some ([], some (.stackOverflow 1 0x8000)) := by decide

theorem test_rts :
    (after .rts (machine regs [(0x1FE, 0x0A), (0x1FF, 0x80)])).map (fun t => (t.cpu.pc, t.cpu.s, t.cycles)) =
      some (0x800B, 0xFF, 13) ∧
    (after .rts (machine { regs with s := 0xFE } [])).map (·.fault) = some (some (.stackUnderflow 0xFE 0x8000)) := by decide

theorem test_branches :
    (after (.bcc 4) (machine regs [])).map (fun t => (t.cpu.pc, t.cycles)) = some (0x8006, 10) ∧
    (after (.bcs 4) (machine regs [])).map (fun t => (t.cpu.pc, t.cycles)) = some (0x8002, 9) ∧
    (after (.bne 0xFE) (machine { regs with pc := 0x8010 } [])).map (·.cpu.pc) = some 0x8010 ∧
    (after (.bvc 0x80) (machine { regs with pc := 0x8080 } [])).map (·.cpu.pc) = some 0x8002 ∧
    (after (.bpl 0x7F) (machine { regs with pc := 0xFFF0 } [])).map (·.cpu.pc) = some 0x0071 ∧
    (after (.beq 4) (machine regs [])).map (·.cpu.pc) = some 0x8002 ∧
    (after (.bvs 4) (machine regs [])).map (·.cpu.pc) = some 0x8002 := by decide

theorem test_branch_page_penalty :
    (after (.bmi 5) (machine { regs with pc := 0x80FD, p := { noFlags with n := true } } [])).map
      (fun t => (t.cpu.pc, t.cycles)) = some (0x8104, 10) ∧
    (after (.bmi 5) { machine { regs with pc := 0x80FD, p := { noFlags with n := true } } [] with
      params := { Params.default with branchPagePenalty := true } }).map (·.cycles) = some 11 := by decide

/-! ## Flags and system (V110 to V119) -/

theorem test_flag_instructions :
    (after .sec (machine regs [])).map (·.cpu.p) = some { noFlags with c := true } ∧
    (after .sei (machine regs [])).map (·.cpu.p) = some { noFlags with i := true } ∧
    (after .sed (machine regs [])).map (·.cpu.p) = some { noFlags with d := true } ∧
    (after .clc (machine { regs with p := { noFlags with c := true } } [])).map (·.cpu.p) = some noFlags ∧
    (after .cli (machine { regs with p := { noFlags with i := true } } [])).map (·.cpu.p) = some noFlags ∧
    (after .cld (machine { regs with p := { noFlags with d := true } } [])).map (·.cpu.p) = some noFlags ∧
    (after .clv (machine { regs with p := { noFlags with v := true } } [])).map (·.cpu.p) = some noFlags := by decide

theorem test_nop : (after .nop (machine regs [])).map (fun t => (t.cpu, t.cycles)) =
    some ({ regs with pc := 0x8001 }, 9) := by decide

/-- V115, V116: the program is at $8004; the vector bytes are the last of the cartridge's page. -/
def brkState : State :=
  { withCart .nrom 1 [(0x3FFF, 0x90)] with
    cpu := { regs with s := 0xFF, pc := 0x8004, p := { noFlags with i := true } } }

theorem test_brk :
    (after .brk brkState).map (fun t => (t.ram, t.cpu.s, t.cpu.pc, t.cycles)) =
      some ([(0x1FD, 0x34), (0x1FE, 0x06), (0x1FF, 0x80)], 0xFC, 0x9000, 14) := by decide

theorem test_rti :
    ((after .brk brkState).bind (after .rti)).map (fun t => (statusByte t.cpu.p, t.cpu.pc, t.cpu.s, t.cycles)) =
      some (0x34, 0x8006, 0xFF, 20) := by decide

theorem test_unwired_opcode :
    (stepped (withCart .nrom 1 [(0, 0x02)])).map (fun t => (t.fault, t.cpu.pc, t.cycles, t.ppu.dot)) =
      some (some (.unimplementedOpcode 0x02 0x8000), 0x8000, 7, 21) := by decide

/-! ## Memory, ports, mappers (V130 to V148, S5, S7) -/

theorem test_ram_mirror :
    (memRead 0x1FFF (memWrite 0x07FF 0x5A (machine regs []))).1 = 0x5A ∧
    (memRead 0x3FFE (machine regs [])).1 = 0 ∧ (memRead 0x4018 (machine regs [])).1 = 0 ∧
    (memRead 0x5000 (memWrite 0x5000 0xAB (machine regs []))).1 = 0xAB := by decide

theorem test_port_mirror :
    (memRead 0x200A { machine regs [] with ppu := { State.reset.ppu with vblank := true } }).1 = 0x80 ∧
    (memRead 0x2002 (memRead 0x200A { machine regs [] with ppu := { State.reset.ppu with vblank := true } }).2).1 = 0 := by
  decide

theorem test_unrom :
    (memRead 0x8000 (memWrite 0xC123 6 (withCart (.unrom 0) 8 [(0x18000, 0x66), (0x1C000, 0x77)]))).1 = 0x66 ∧
    (memRead 0xC000 (withCart (.unrom 0) 8 [(0x18000, 0x66), (0x1C000, 0x77)])).1 = 0x77 ∧
    (memWrite 0x8000 0x0D (withCart (.unrom 0) 8 [])).mapper = .unrom 5 ∧
    (memWrite 0x8000 0x0D (withCart (.unrom 0) 4 [])).mapper = .unrom 1 := by decide

/-- S7: the bits 1, 0, 1, 0, 1 to $E000. -/
theorem test_mmc1_commit :
    (writeMany [(0xE000, 1), (0xE000, 0), (0xE000, 1), (0xE000, 0)] (withCart (.mmc1 mmc1Reset) 8 [])).mapper =
      .mmc1 { mmc1Reset with shift := 0x0A, count := 4 } ∧
    (writeMany [(0xE000, 1), (0xE000, 0), (0xE000, 1), (0xE000, 0), (0xE000, 1)] (withCart (.mmc1 mmc1Reset) 8 [])).mapper =
      .mmc1 { mmc1Reset with prg := 0x15 } := by decide

theorem test_mmc1_banks :
    (memRead 0x8000 (withCart (.mmc1 { mmc1Reset with control := 0x08, prg := 5 }) 8 [(0x14000, 0x55)])).1 = 0 ∧
    (memRead 0xC000 (withCart (.mmc1 { mmc1Reset with control := 0x08, prg := 5 }) 8 [(0x14000, 0x55)])).1 = 0x55 ∧
    (memRead 0x8000 (withCart (.mmc1 { mmc1Reset with control := 0, prg := 5 }) 8 [(0x10000, 0x44)])).1 = 0x44 ∧
    chrOffset (.mmc1 { mmc1Reset with control := 0x10, chr0 := 3, chr1 := 1 }) 16384 0 = 0x3000 ∧
    chrOffset (.mmc1 { mmc1Reset with control := 0x10, chr0 := 3, chr1 := 1 }) 16384 0x1000 = 0x1000 ∧
    chrOffset (.cnrom 3) 32768 0x10 = 0x6010 := by decide

theorem test_load_error :
    (powerOn Params.default { Cartridge.blank with mapperId := 4 } Draws.zero).fault =
      some (.loadError (.unsupportedMapper 4)) := by decide

/-! ## PPU (V150 to V163) -/

theorem test_scroll_writes :
    (fun p : Ppu => (p.t, p.ctrl)) (memWrite 0x2000 3 State.reset).ppu = (0x0C00, 3) ∧
    (fun p : Ppu => (p.t, p.x, p.w)) (memWrite 0x2005 0x7D State.reset).ppu = (0x000F, 5, true) ∧
    (fun p : Ppu => (p.t, p.w)) (writeMany [(0x2005, 0x7D), (0x2005, 0x5E)] State.reset).ppu = (0x616F, false) ∧
    (fun p : Ppu => (p.t, p.v, p.w)) (writeMany [(0x2006, 0x21), (0x2006, 0x08)] State.reset).ppu =
      (0x2108, 0x2108, false) := by decide

/-- V154: `v` = $2108, the latch $AA, bytes $55 and $66 there (horizontal mirroring: page 0, offset $108). -/
theorem test_data_reads :
    readMany 0x2007 2 { State.reset with ppu := { State.reset.ppu with
      v := 0x2108, buffer := 0xAA, nt := [(0x108, 0x55), (0x109, 0x66)] } } = [0xAA, 0x55] := by decide

theorem test_mirroring :
    ppuRead (ppuWrite State.reset 0x2108 0x5A) 0x2508 = 0x5A ∧ ppuRead (ppuWrite State.reset 0x2108 0x5A) 0x2908 = 0 ∧
    ppuRead (ppuWrite { State.reset with cart := { Cartridge.blank with mirroring := true } } 0x2108 0x5A) 0x2908 = 0x5A ∧
    ppuRead (ppuWrite State.reset 0x3F10 0x0F) 0x3F00 = 0x0F := by decide

theorem test_colour_fault :
    (ppuDot (atDot 0 0 { State.reset with ppu := { State.reset.ppu with pal := [(0, 0x40)] } })).fault =
      some (.invalidColorIndex 0x40 0 0) := by decide

theorem test_vblank :
    (fun s : State => (s.ppu.vblank, s.ppu.nmiPending))
      (ppuDot (atDot 241 0 { State.reset with ppu := { State.reset.ppu with ctrl := 0x80 } })) = (false, false) ∧
    (fun s : State => (s.ppu.vblank, s.ppu.nmiPending))
      (afterDots 2 (atDot 241 0 { State.reset with ppu := { State.reset.ppu with ctrl := 0x80 } })) = (true, true) := by
  decide

/-- V163: fine Y 7, coarse Y 29: the nametable bit flips. -/
theorem test_increment_y : incrementY 0x73A5 = 0x0805 ∧ incrementY 0x03A5 = 0x13A5 ∧ incrementY 0x73E5 = 0x0005 := by decide

/-- A machine that shows everything, whose tile 0 has one dot of colour 1, at its top left (R614): sprite 0 and the
background's tile meet at dot (0, 0). The sprite's colour 1 is entry $11, the background's entry $01 (R666). -/
def meeting (attributes : Byte) : State :=
  { State.reset with
    chrRam := [(0, 0x80)]
    ppu := { State.reset.ppu with mask := 0x1E, oam := [(2, attributes)], pal := [(0x01, 0x16), (0x11, 0x2A)], dot := 0 } }

/-- By hand from R650, R652, R655, R662, R666: the sprite in front, and behind the background. -/
theorem test_composition :
    (fun s : State => (cellRead s.ppu.fb 0, s.ppu.s0line, s.ppu.overflow)) (ppuDot (meeting 0x00)) = (0x2A, true, true) ∧
    (fun s : State => (cellRead s.ppu.fb 0, s.ppu.s0line)) (ppuDot (meeting 0x20)) = (0x16, true) ∧
    (fun s : State => (cellRead s.ppu.fb 1, s.ppu.s0line)) (ppuDot (atDot 0 1 (meeting 0x00))) = (0, false) := by decide

/-- R663: the hit shows at dot 257, once a frame. -/
theorem test_sprite0_hit :
    (fun p : Ppu => (p.sprite0hit, p.s0latched, p.s0line))
      (ppuDot (atDot 9 257 { State.reset with ppu := { State.reset.ppu with s0line := true } })).ppu = (true, true, false) ∧
    (ppuDot (atDot 9 257 { State.reset with ppu := { State.reset.ppu with s0line := true, s0latched := true } })).ppu.sprite0hit =
      false := by decide

theorem test_oam_data :
    (fun p : Ppu => (p.oam, p.oamaddr)) (writeMany [(0x2003, 0xFE), (0x2004, 0x11), (0x2004, 0x22)] State.reset).ppu =
      ([(0xFE, 0x11), (0xFF, 0x22)], 0) := by decide

/-! ## APU (V170 to V176) -/

theorem test_length_load :
    (memWrite 0x4003 8 State.reset).apu.pulse1.length = 0 ∧
    (writeMany [(0x4015, 1), (0x4003, 8)] State.reset).apu.pulse1.length = 254 ∧
    (writeMany [(0x4015, 1), (0x4003, 8), (0x4015, 0)] State.reset).apu.pulse1.length = 0 ∧
    (fun t : Triangle => (t.length, t.linReloadFlag, t.control))
      (writeMany [(0x4015, 4), (0x4008, 0x7F), (0x400B, 0xF8)] State.reset).apu.tri = (30, true, false) := by decide

theorem test_frame_counter_write :
    (fun a : Apu => (a.mode5, a.frameCycles, a.pulse1.length))
      (writeMany [(0x4015, 1), (0x4003, 8), (0x4017, 0x80)] State.reset).apu = (true, 0, 253) ∧
    (fun a : Apu => (a.frameIrq, a.irqInhibit))
      (memWrite 0x4017 0x40 { State.reset with apu := { Apu.reset with frameIrq := true } }).apu = (false, true) := by decide

theorem test_noise_shift : lfsrNext false 1 = 0x4000 := by decide

/-- R745, R726, R727: duty 3 is high at step 0; the triangle's ramp at steps 0 and 31; the noise is muted by bit 0. -/
theorem test_amplitudes :
    pulseAmp Params.default 1 { Pulse.reset with enabled := true, length := 1, duty := 3, constVol := true, vol := 9 } = 9 ∧
    pulseAmp Params.default 1 { Pulse.reset with enabled := true, length := 1, duty := 2, constVol := true, vol := 9 } = 0 ∧
    triangleAmp { Triangle.reset with enabled := true, length := 1 } = 15 ∧
    triangleAmp { Triangle.reset with enabled := true, length := 1, seq := 31 } = 15 ∧
    noiseAmp { Noise.reset with enabled := true, length := 1, constVol := true, vol := 9 } = 0 := by decide

/-- R164: CHR RAM is written, CHR ROM ignores it. -/
theorem test_pattern_write :
    ppuRead (ppuWrite State.reset 0x1234 0x5A) 0x1234 = 0x5A ∧
    ppuRead (ppuWrite { State.reset with cart := { Cartridge.blank with nChr := 1 } } 0x1234 0x5A) 0x1234 = 0 := by decide

/-- R746: the loudest input gives 255, silence 0. -/
theorem test_reference_mix : referenceMix 15 15 15 15 = 255 ∧ referenceMix 0 0 0 0 = 0 := by decide

/-! ## Joypad, DMA, NMI (V180 to V191) -/

theorem test_joypad :
    readMany 0x4016 9 (writeMany [(0x4016, 1), (0x4016, 0)] { State.reset with pad := { Pad.reset with buttons := 0x09 } }) =
      [1, 0, 0, 1, 0, 0, 0, 0, 0] := by decide

set_option maxRecDepth 10000 in
theorem test_oam_dma :
    (after (.staAbs 0x4014) { machine (axy 2 0 0) [(0x200, 0x77), (0x2F0, 0x88)] with
      ppu := { State.reset.ppu with oamaddr := 0x10 } }).map (fun t => (t.ppu.oam, t.ppu.oamaddr, t.cycles)) =
      some ([(0x00, 0x88), (0x10, 0x77)], 0x10, 524) := by decide

theorem test_nmi_entry :
    (fun s : State => (s.ram, s.cpu.s, s.cpu.p.i, s.cpu.pc, s.cycles))
      (nmiEntry { withCart .nrom 1 [(0x3FFB, 0x81)] with
        cpu := { regs with s := 0xFF, pc := 0x800B, p := { noFlags with n := true, i := true } } }) =
      ([(0x1FD, 0xA4), (0x1FE, 0x0B), (0x1FF, 0x80)], 0xFC, true, 0x8100, 14) := by decide

/-! ## Witnesses: for each obligation with hypotheses, a state and operands that meet them, one for each clause -/

/-- NOP at $0000 (work RAM), the next step of a reset machine. -/
def nopState : State := State.reset.withFetchWord 8 0xEA

/-- The reset machine with the stack pointer at `v`. -/
def stackAt (v : Byte) : State := machine { regs with s := v } []

/-- The reset machine that composes colour $40 at its next dot. -/
def badColour : State := { State.reset with ppu := { State.reset.ppu with pal := [(0, 0x40)] } }

theorem witness_DecodeEncodeAgree : decode [0xA9, 0x05, 0x60] = .ok (.ldaImm 0x05, [0x60]) := rfl

theorem witness_UnwiredBytes : opcodeMap 0x02 = .unwired ∧ opcodeMap 0xFF = .unwired := ⟨rfl, rfl⟩

/-- Plain memory at $0000; and an operand byte that is a port's, at $2000. -/
theorem witness_StepRunsDecoded :
    (nopState.fault = none ∧ Instr.nop.wellFormed nopState.params = true ∧
      decode (fetchBytes Instr.nop.entry.bytes nopState.cpu.pc nopState).1 = .ok (.nop, []) ∧
      ∀ k, k < Instr.nop.entry.bytes → isPort (nopState.cpu.pc + BitVec.ofNat 16 k) = false) ∧
    ∃ s : State, s.fault = none ∧ (Instr.ldaImm 0).wellFormed s.params = true ∧ isPort (s.cpu.pc + 1) = true ∧
      decode (fetchBytes (Instr.ldaImm 0).entry.bytes s.cpu.pc s).1 = .ok (.ldaImm 0, []) := by
  refine ⟨⟨rfl, rfl, rfl, by decide⟩, machine { regs with pc := 0x1FFF } [(0x7FF, 0xA9)], rfl, rfl, rfl, rfl⟩

theorem witness_UnwiredOpcodeFaults :
    (∃ s : State, s.fault = none ∧ opcodeMap (peek s s.cpu.pc) = .unwired) ∧
    ∃ s : State, s.fault = none ∧ s.params.wired (peek s s.cpu.pc) = false :=
  ⟨⟨machine { regs with pc := 0 } [(0, 0x02)], rfl, rfl⟩,
   { machine { regs with pc := 0 } [(0, 0xA9)] with params := { Params.default with unwired := [0xA9] } }, rfl, rfl⟩

theorem witness_FaultIsTerminal : (∃ (s : State) (f : Fault), s.fault = some f) ∧ State.reset.fault = none :=
  ⟨⟨raise (.stackOverflow 0 0) State.reset, .stackOverflow 0 0, rfl⟩, rfl⟩

theorem witness_StepOrder :
    (raise (.stackOverflow 0 0) State.reset).fault ≠ none ∧
    (badColour.fault = none ∧ (advanceDevices (badColour.cycles - 5) badColour).fault ≠ none) ∧
    (State.reset.fault = none ∧ (advanceDevices (State.reset.cycles - 5) State.reset).fault = none ∧
      (advanceDevices (State.reset.cycles - 5) State.reset).ppu.nmiPending = false) ∧
    (fun s : State => s.fault = none ∧ (advanceDevices (s.cycles - 5) s).fault = none ∧
      (advanceDevices (s.cycles - 5) s).ppu.nmiPending = true)
      { State.reset with ppu := { State.reset.ppu with nmiPending := true } } := by decide

theorem witness_ThreeDotsOneTick : (advanceDevices 2 State.reset).fault = none := by decide

/-- The hypotheses of StepKeepsInStep, StepKeepsInv and CartridgeIsReadOnly together. -/
theorem witness_StepKeepsInv : (∃ t, step nopState = .next t) ∧ nopState.inStep ∧ nopState.inv := by
  refine ⟨⟨_, rfl⟩, ?_, ?_⟩
  · unfold State.inStep State.onFrame State.position; decide
  · refine ⟨?_, ?_, ?_, ?_, ?_⟩
    · unfold State.canonical; decide
    · unfold State.onFrame; decide
    · unfold State.lineOk; decide
    · exact ⟨by decide, trivial⟩
    · decide

theorem witness_DirectAddresses :
    (Instr.ldxZpy 0xFF).entry.operand = .zpy 0xFF ∧ (Instr.bne 0x80).entry.operand = .rel 0x80 := ⟨rfl, rfl⟩

theorem witness_PointerAddresses : (Instr.jmpInd 0x10FF).entry.operand = .ind 0x10FF := rfl

theorem witness_OperandRead :
    (Instr.ldaImm 5).entry.operand = .imm 5 ∧ Instr.aslAcc.entry.operand = .acc ∧
    (fun (i : Instr) (s : State) => (∀ o, i.entry.operand ≠ .imm o) ∧ i.entry.operand ≠ .acc ∧
      (∀ w, i.entry.operand ≠ .ind w) ∧ isPort (resolveOf i s).ea = false) (.ldaAbs 0x1FFF) State.reset := by
  refine ⟨rfl, rfl, ?_, ?_, ?_, rfl⟩
  · intro o h; cases h
  · intro h; cases h
  · intro o h; cases h

/-- One opcode of each clause of LoadResults, StoreResults, AdcResult, SbcResult, LogicResults, CompareResults,
IncDecResults and ShiftResults; the state is free in all of them. -/
theorem witness_results_by_opcode :
    ((Instr.ldaIndy 0).opcode = 0xB1 ∧ (Instr.ldxAbsy 0).opcode = 0xBE ∧ (Instr.ldyAbsx 0).opcode = 0xBC) ∧
    ((Instr.staIndy 0).opcode = 0x91 ∧ (Instr.stxZpy 0).opcode = 0x96 ∧ (Instr.styZpx 0).opcode = 0x94) ∧
    ((Instr.adcImm 0).opcode = 0x69 ∧ (Instr.sbcImm 0).opcode = 0xE9) ∧
    ((Instr.andImm 0).opcode = 0x29 ∧ (Instr.oraImm 0).opcode = 0x09 ∧ (Instr.eorImm 0).opcode = 0x49) ∧
    ((Instr.cmpImm 0).opcode = 0xC9 ∧ (Instr.cpxImm 0).opcode = 0xE0 ∧ (Instr.cpyImm 0).opcode = 0xC0 ∧
      (Instr.bitZp 0).opcode = 0x24) ∧
    ((Instr.incZp 0).opcode = 0xE6 ∧ (Instr.decZp 0).opcode = 0xC6) ∧
    ((Instr.aslZp 0).opcode = 0x06 ∧ (Instr.lsrZp 0).opcode = 0x46 ∧ (Instr.rolZp 0).opcode = 0x26 ∧
      (Instr.rorZp 0).opcode = 0x66) ∧
    (Instr.aslAcc.opcode = 0x0A ∧ Instr.lsrAcc.opcode = 0x4A ∧ Instr.rolAcc.opcode = 0x2A ∧ Instr.rorAcc.opcode = 0x6A) := by
  decide

/-- The result byte of LogicResults' second hypothesis, for each of its clauses. -/
theorem witness_LogicResults : ∃ (s : State) (m r1 r2 r3 : Byte),
    (operandOf (.andImm m) s).1 = m ∧ (operandOf (.oraImm m) s).1 = m ∧ (operandOf (.eorImm m) s).1 = m ∧
    (∀ k, k < 8 → r1.getLsbD k = (s.cpu.a.getLsbD k && m.getLsbD k)) ∧
    (∀ k, k < 8 → r2.getLsbD k = (s.cpu.a.getLsbD k || m.getLsbD k)) ∧
    (∀ k, k < 8 → r3.getLsbD k = Bool.xor (s.cpu.a.getLsbD k) (m.getLsbD k)) := by
  refine ⟨machine (axy 0xF0 0 0) [], 0x3C, 0x30, 0xFC, 0xCC, rfl, rfl, rfl, ?_, ?_, ?_⟩ <;> decide

theorem witness_AdcSbcLaws :
    (Instr.adcImm 1).entry.mnemonic = .adc ∧ (Instr.sbcIndy 1).entry.mnemonic = .sbc ∧
    (∃ t, exec (.adcImm 1) State.reset = .next t) ∧ ∃ t, exec (.sbcIndy 1) State.reset = .next t :=
  ⟨rfl, rfl, ⟨_, rfl⟩, ⟨_, rfl⟩⟩

/-- The boundary values of the stack checks (R124): for JumpResults, PushResults, PullResults and StackCheckFaults. -/
theorem witness_stack_checks :
    (pushOk (stackAt 1) 1 ∧ pushOk (stackAt 2) 2 ∧ pushOk (stackAt 3) 3) ∧
    (pullOk (stackAt 0xFE) 1 ∧ pullOk (stackAt 0xFD) 2 ∧ pullOk (stackAt 0xFC) 3) ∧
    (¬ pushOk (stackAt 0) 1 ∧ ¬ pushOk (stackAt 1) 2 ∧ ¬ pushOk (stackAt 2) 3) ∧
    (¬ pullOk (stackAt 0xFF) 1 ∧ ¬ pullOk (stackAt 0xFE) 2 ∧ ¬ pullOk (stackAt 0xFD) 3) ∧
    pushOk { stackAt 0 with params := { Params.default with stackPolicy := .wrap } } 3 := by
  unfold pushOk pullOk; decide

theorem witness_PushPullWord :
    isPort 0x200 = false ∧ target 0x200 ≠ .ram (pushSlot (stackAt 0) 0) ∧ target 0x200 ≠ .ram (pushSlot (stackAt 0) 1) ∧
    (stackAt 0).params.stackClearOnPop = false ∧ (stackAt 1).cpu.s ≠ 0 := by decide

theorem witness_CallsReturn :
    (pushOk (stackAt 2) 2 ∧ ∃ t, exec (.jsr 0x8010) (stackAt 2) = .next t) ∧
    (pushOk (stackAt 3) 3 ∧ ∃ t, exec .brk (stackAt 3) = .next t) :=
  ⟨⟨Or.inr (by decide), _, rfl⟩, Or.inr (by decide), _, rfl⟩

theorem witness_NmiEntry : pushOk (stackAt 3) 3 ∧ ¬ pushOk (stackAt 2) 3 := by unfold pushOk; decide

/-- NOP writes no register and no flag: every clause's hypothesis at once. -/
theorem witness_RegisterAndFlagFrame :
    (∃ t, exec .nop State.reset = .next t) ∧ writesA .nop = false ∧ writesX .nop = false ∧ writesY .nop = false ∧
    writesS .nop = false ∧ writesNZ .nop = false ∧ writesV .nop = false ∧ writesD .nop = false ∧ writesI .nop = false ∧
    writesC .nop = false ∧ Mnemonic.nop ≠ .plp ∧ Mnemonic.nop ≠ .rti := ⟨⟨_, rfl⟩, by decide⟩

theorem witness_NoStoreFrame :
    storesNothing (.ldaAbs 0x2002) = true ∧ storesNothing .aslAcc = true ∧
    ∃ t, exec (.ldaAbs 0x2002) State.reset = .next t := ⟨rfl, rfl, _, rfl⟩

/-- Work RAM, a port and ROM as the address stored to. -/
theorem witness_StoreFrame : ∀ a ∈ ([0x1FFF, 0x2000, 0x401F, 0x4020, 0x7FFF, 0x8000, 0xFFFF] : List Word),
    storesOne (.staAbs a) = true ∧ storesOne (.incAbs a) = true ∧ (resolveOf (.staAbs a) State.reset).ea = a ∧
    (∃ t, exec (.staAbs a) State.reset = .next t) ∧
    isPort a = decide (0x2000 ≤ a.toNat ∧ a.toNat ≤ 0x401F) ∧ isRom a = decide (0x8000 ≤ a.toNat) := by
  intro a ha
  refine ⟨rfl, rfl, rfl, exec_next _ _, ?_⟩
  fin_cases ha <;> decide

theorem witness_StackFrame :
    (∀ i ∈ ([.pha, .php, .jsr 0, .brk] : List Instr), ∃ t, exec i (stackAt 3) = .next t) ∧
    (∀ i ∈ ([.pla, .plp, .rts, .rti] : List Instr), ∃ t, exec i (stackAt 0xFC) = .next t) ∧
    (∀ n, n < 3 → target 0x200 ≠ .ram (pushSlot (stackAt 3) n)) ∧
    (∀ n, n < 4 → 1 ≤ n → target 0x200 ≠ .ram (pullSlot (stackAt 0xFC) n)) ∧ isPort 0x200 = false := by
  exact ⟨fun i _ => exec_next i _, fun i _ => exec_next i _, by decide, by decide, rfl⟩

/-- Where the clauses of AddressDecoding meet, with both settings of `LOW_CART_REGION`. -/
theorem witness_AddressDecoding :
    ((0x1FFF : Word).toNat ≤ 0x1FFF ∧ 0x2000 ≤ (0x2000 : Word).toNat ∧ (0x3FFF : Word).toNat ≤ 0x3FFF ∧
      0x4000 ≤ (0x4000 : Word).toNat ∧ (0x401F : Word).toNat ≤ 0x401F ∧ 0x4020 ≤ (0x4020 : Word).toNat ∧
      (0x7FFF : Word).toNat ≤ 0x7FFF ∧ 0x8000 ≤ (0x8000 : Word).toNat) ∧
    State.reset.params.lowCartRegion = .ram ∧ ∃ s : State, s.params.lowCartRegion = .zero :=
  ⟨by decide, rfl, { State.reset with params := { Params.default with lowCartRegion := .zero } }, rfl⟩

theorem witness_ReadAfterWrite :
    (isPort 0x1FFF = false ∧ isRom 0x1FFF = false ∧ isPort 0x07FF = false ∧ target 0x1FFF = target 0x07FF) ∧
    (isPort 0x7FFF = false ∧ isRom 0x7FFF = false ∧ State.reset.params.lowCartRegion = .ram ∧
      target 0x7FFF ≠ target 0x07FF) := by decide

/-- Each port of ReadSideEffects, the last address before them and a write-only port. -/
theorem witness_ReadSideEffects :
    target 0x3FFA = .port 0x2002 ∧ target 0x200F = .port 0x2007 ∧ target 0x4015 = .port 0x4015 ∧
    target 0x4016 = .port 0x4016 ∧
    ∀ a ∈ ([0x1FFF, 0x2000, 0x4017, 0x4020, 0xFFFF] : List Word), target a ≠ .port 0x2002 ∧ target a ≠ .port 0x2007 ∧
      target a ≠ .port 0x4015 ∧ target a ≠ .port 0x4016 := by
  refine ⟨rfl, rfl, rfl, rfl, fun a ha => ?_⟩
  fin_cases ha <;> decide

theorem witness_UnsupportedPorts :
    target 0x4014 = .port 0x4014 ∧ 0x4014 ∉ ([0x2002, 0x2004, 0x2007, 0x4015, 0x4016] : List Nat) ∧
    target 0x2002 = .port 0x2002 ∧ target 0x4013 = .port 0x4013 ∧ target 0x4018 = .port 0x4018 ∧
    target 0x401F = .port 0x401F := by decide

/-- A machine of each mapper, at both ends of ROM: PrgMapping, BankWrites, Mmc1Serial. -/
theorem witness_mappers :
    (0x8000 ≤ (0x8000 : Word).toNat ∧ 0x8000 ≤ (0xFFFF : Word).toNat) ∧
    ∀ m ∈ ([.nrom, .unrom 7, .cnrom 3, .mmc1 mmc1Reset] : List Mapper), (withCart m 8 []).mapper = m := by decide

/-- The register selected by the fifth write, at the boundaries of the four ranges; bit 7 clear and set; the counts. -/
theorem witness_Mmc1Serial :
    (∀ a ∈ ([0x8000, 0x9FFF, 0xA000, 0xBFFF, 0xC000, 0xDFFF, 0xE000, 0xFFFF] : List Word), 0x8000 ≤ a.toNat) ∧
    (0x7F : Byte).toNat < 128 ∧ 128 ≤ (0x80 : Byte).toNat ∧ mmc1Reset.count = 0 ∧ 3 < 4 := by
  refine ⟨fun a ha => ?_, by decide⟩
  fin_cases ha <;> decide

theorem witness_ChrMapping :
    0 < 8192 ∧ 8192 % 8192 = 0 ∧ 0x1FFF < 0x2000 ∧
    (∃ r : Mmc1, r.control.toNat / 16 = 0) ∧ ∃ r : Mmc1, r.control.toNat / 16 = 1 :=
  ⟨by decide, by decide, by decide, ⟨mmc1Reset, by decide⟩, { mmc1Reset with control := 0x1F }, by decide⟩

theorem witness_VideoMirroring :
    (0x1FFF < 0x2000 ∧ State.reset.cart.nChr = 0 ∧ State.reset.params.chrRamWhenNoChr = true ∧
      0 < ({ Cartridge.blank with nChr := 1 } : Cartridge).nChr) ∧
    (0x2000 ≤ 0x3EFF ∧ 0x3EFF < 0x3F00) ∧ (0x3F00 ≤ 0x3FFF ∧ 0x3FFF < 0x4000) ∧
    (∀ r, State.reset.mapper ≠ .mmc1 r) ∧
    ∃ s : State, ∃ r, s.mapper = .mmc1 r ∧ s.params.mmc1MirroringApplied = true := by
  refine ⟨by decide, by decide, by decide, fun r => nofun, ?_⟩
  exact ⟨{ withCart (.mmc1 mmc1Reset) 1 [] with params := { Params.default with mmc1MirroringApplied := true } },
    mmc1Reset, rfl, rfl⟩

theorem witness_ScrollAndAddress : State.reset.ppu.w = false ∧ (memWrite 0x2005 0 State.reset).ppu.w = true := by decide

theorem witness_VideoData :
    (0x3EFF : BitVec 15).toNat % 0x4000 < 0x3F00 ∧ 0x3F00 ≤ (0x7F00 : BitVec 15).toNat % 0x4000 := by decide

theorem witness_FrameGeometry : State.reset.onFrame ∧ (afterDots 5 State.reset).fault = none := by
  unfold State.onFrame; decide

/-- The two VBlank dots, dot 257 of the first and the last visible line, and dots that are none of them. -/
theorem witness_VBlankDots :
    (∀ p ∈ [(241, 1), (261, 1), (0, 257), (239, 257), (240, 257), (239, 258), (240, 1)],
      (ppuDot (atDot p.1 p.2 State.reset)).fault = none) ∧
    State.reset.params.vblankSetDot = 1 ∧ State.reset.params.vblankClearDot = 1 := by decide

/-- Rendering on at each scroll dot, at the boundaries of their ranges; and a dot that is none of them. -/
theorem witness_ScrollDots : ∀ p ∈ [(0, 256), (239, 257), (261, 256), (261, 257), (261, 280), (261, 304), (261, 305), (241, 256)],
    (fun s : State => (ppuDot s).fault = none ∧ s.ppu.mask.getLsbD 3 = true ∧ s.ppu.scanline = p.1 ∧ s.ppu.dot = p.2)
      (atDot p.1 p.2 { State.reset with ppu := { State.reset.ppu with mask := 0x08 } }) := by decide

/-- Sprite 0 at column 8 from line 8 on, sprite 1 at the corner; `tall` is the sprite size bit. -/
def spriteAt8 (mask : Byte) (tall : Bool) : State :=
  { State.reset with
    chrRam := [(0, 0x80)]
    ppu := { State.reset.ppu with
      mask := mask, ctrl := if tall then 0x20 else 0, oam := [(0, 8), (3, 8)], lineSprites := [1, 0] } }

/-- Rendering on and off; the columns and lines on both sides of the sprite's edges, in both sizes; sprites shown, clipped
and hidden; a list whose sprites have no colour, and one whose second sprite is the first with a colour. -/
theorem witness_SpriteEvaluation :
    ((spriteAt8 0x10 false).ppu.mask.getLsbD 4 = true ∧ (0xE7 : Byte).getLsbD 3 = false ∧ (0xE7 : Byte).getLsbD 4 = false) ∧
    (∀ tall : Bool, (cellRead (spriteAt8 0x10 tall).ppu.oam (4 * 0 + 3)).toNat = 8 ∧
      (cellRead (spriteAt8 0x10 tall).ppu.oam (4 * 0)).toNat = 8) ∧
    (7 < 8 ∧ 8 + 8 ≤ 16 ∧ 8 ≤ 15 ∧ 15 < 8 + 8 ∧ 23 < 8 + 16) ∧
    (8 ≤ 8 ∧ (0x14 : Byte).getLsbD 4 = true ∧ (0x14 : Byte).getLsbD 2 = true ∧ ¬ (8 ≤ 7 ∨ (0x10 : Byte).getLsbD 2 = true)) ∧
    (∀ j ∈ (spriteAt8 0x10 false).ppu.lineSprites, spriteColour (spriteAt8 0x10 false) j 8 9 = 0) ∧
    (spriteAt8 0x10 false).ppu.lineSprites = [1] ++ 0 :: [] ∧
    (∀ j ∈ [1], spriteColour (spriteAt8 0x10 false) j 8 8 = 0) ∧ spriteColour (spriteAt8 0x10 false) 0 8 8 ≠ 0 := by
  decide

/-- The colour composed at dot (0, 0) with rendering on is entry $11's, $3F or $40. -/
def meetingOn (k : Byte) : State :=
  { meeting 0 with ppu := { (meeting 0).ppu with pal := [(0x11, k)] } }

/-- Colours $3F and $40 at the corners of the picture with rendering off, and with rendering on; the background shown,
clipped and hidden. -/
theorem witness_BackdropAndColourFault :
    (∀ k ∈ ([0x3F, 0x40] : List Byte), ∀ p ∈ [(0, 0), (239, 255)],
      (fun s : State => s.fault = none ∧ s.ppu.scanline ≤ 239 ∧ s.ppu.dot ≤ 255 ∧ s.ppu.mask.getLsbD 3 = false ∧
        s.ppu.mask.getLsbD 4 = false ∧ cellRead s.ppu.pal 0 = k)
        (atDot p.1 p.2 { State.reset with ppu := { State.reset.ppu with pal := [(0, k)] } })) ∧
    (∀ k ∈ ([0x3F, 0x40] : List Byte),
      (fun s : State => s.fault = none ∧ s.ppu.scanline = 0 ∧ s.ppu.dot = 0 ∧ s.ppu.mask.getLsbD 3 = true ∧
        (bgColour { s with ppu := evaluateSprites s.ppu 0 } 0).2 = 1 ∧
        spritePixel { s with ppu := evaluateSprites s.ppu 0 } 0 0 = (1, 0, false) ∧
        cellRead s.ppu.pal (16 + 4 * 0 + 1) = k) (meetingOn k)) ∧
    ((0x08 : Byte).getLsbD 3 = true ∧ 8 ≤ 8 ∧ ¬ (8 ≤ 7 ∨ (0x08 : Byte).getLsbD 1 = true) ∧ (0x0A : Byte).getLsbD 1 = true ∧
      (0x10 : Byte).getLsbD 3 = false) := by decide

theorem witness_ApuStatus : 128 ≤ (0x80 : Byte).toNat ∧ ¬ 128 ≤ (0x7F : Byte).toNat := by decide

theorem witness_OamDma : (0x1F : Byte).toNat < 0x20 ∧ 0x41 ≤ (0x41 : Byte).toNat := by decide

theorem witness_JoypadSerial : (0x01 : Byte).toNat % 2 = 1 ∧ (0xFE : Byte).toNat % 2 = 0 := by decide

theorem witness_LengthPerHalfFrame : Apu.reset.frameCycles = 0 ∧ Apu.reset.mode5 = false ∧
    ({ Apu.reset with mode5 := true } : Apu).mode5 = true ∧ ({ Apu.reset with mode5 := true } : Apu).frameCycles = 0 := by
  decide

theorem witness_SampleRate : Apu.reset.sampleCounter < Params.default.samplePeriod := by decide

/-- A cartridge with each defect, one with both, and a good one of each mapper. -/
theorem witness_PowerOn :
    (fun c : Cartridge => 4 ≤ c.mapperId.toNat ∧ 0 < c.nPrg) { Cartridge.blank with mapperId := 4 } ∧
    (fun c : Cartridge => c.mapperId.toNat < 4 ∧ c.nPrg = 0) { Cartridge.blank with nPrg := 0 } ∧
    (fun c : Cartridge => 4 ≤ c.mapperId.toNat ∧ c.nPrg = 0) { Cartridge.blank with mapperId := 4, nPrg := 0 } ∧
    (∀ i ∈ ([0, 1, 2, 3] : List Byte), (fun c : Cartridge => c.mapperId.toNat < 4 ∧ 0 < c.nPrg ∧ c.mapperId = i)
      { Cartridge.blank with mapperId := i }) ∧
    Params.default.resetCycles = 7 ∧ ({ Params.default with resetCycles := 0 } : Params).resetCycles = 0 ∧
    7 < Params.default.samplePeriod ∧ Params.default.noisePeriods.head? = some 2 := by decide

end Sys2Proof.Tests
end

section
/-! PROOF. Words on the stack (R122, R123): what a word pushed leaves in its two slots, what a word pulled afterwards gives
back, and which bytes neither touches. -/

namespace Sys2Proof.Machine

variable (s : State)

/-! ## The slots -/

/-- Every push slot is in the stack page (R33). -/
theorem pushSlot_le (k : Nat) : pushSlot s k ≤ 0x1FF := by
  unfold pushSlot
  omega

/-- Two consecutive pushes write different bytes, also where `S` wraps. -/
theorem pushSlot_zero_ne_one : pushSlot s 0 ≠ pushSlot s 1 := by
  unfold pushSlot
  omega

/-- The second slot is the one below the first, unless `S` wraps between them. -/
theorem pushSlot_zero_eq_one_add_one (h : s.cpu.s ≠ 0) : pushSlot s 0 = pushSlot s 1 + 1 := by
  have hpos : s.cpu.s.toNat ≠ 0 := fun h0 => h (BitVec.eq_of_toNat_eq h0)
  have hlt := s.cpu.s.isLt
  unfold pushSlot
  omega

/-! ## Bytes a write of work RAM leaves as they were -/

/-- A cartridge-region address (R103, R105) lies above work RAM and the ports. -/
theorem lt_of_target_cartLow {a : Word} {m : Nat} (h : target a = .cartLow m) : 0x401F < m := by
  unfold target targetOf at h
  split at h
  · cases h
  split at h
  · cases h
  split at h
  · cases h
    omega
  · cases h

/-- A byte of memory reads the same whatever stands in a cell of work RAM it is not stored in. -/
theorem peek_withRam_cellWrite (m : Memory) {n : Nat} (b : Byte) {a : Word} (hn : n ≤ 0x1FFF) (hport : isPort a = false)
    (ha : target a ≠ .ram n) : peek (s.withRam (cellWrite m n b)) a = peek (s.withRam m) a := by
  unfold peek memRead
  split
  · next off hoff =>
    have hne : off ≠ n := fun h => ha (h ▸ hoff)
    exact cellRead_write_other m b hne
  · next p hp => simp [isPort, hp] at hport
  · next off hoff =>
    have hne : off ≠ n := by
      have := lt_of_target_cartLow hoff
      omega
    simp [cartLowRead, cellRead_write_other m b hne]
  · rfl

/-! ## Vacated slots -/

/-- The RAM `m` after the byte in slot `k` has been pulled: cleared under `STACK_CLEAR_ON_POP` (R125). -/
def vacate (k : Nat) (m : Memory) : Memory :=
  if s.params.stackClearOnPop then cellWrite m (pushSlot s k) 0 else m

variable {s}

theorem vacate_keep (h : s.params.stackClearOnPop = false) (k : Nat) (m : Memory) : vacate s k m = m := by
  simp [vacate, h]

theorem cellRead_vacate_other {k n : Nat} (m : Memory) (hn : n ≠ pushSlot s k) :
    cellRead (vacate s k m) n = cellRead m n := by
  unfold vacate
  split
  · exact cellRead_write_other m 0 hn
  · rfl

theorem peek_withRam_vacate {k : Nat} (m : Memory) {a : Word} (hport : isPort a = false)
    (ha : target a ≠ .ram (pushSlot s k)) : peek (s.withRam (vacate s k m)) a = peek (s.withRam m) a := by
  unfold vacate
  split
  · exact peek_withRam_cellWrite s m 0 (by have := pushSlot_le s k; omega) hport ha
  · rfl

/-! ## A word pushed, then pulled -/

variable (s)

/-- The RAM after `Push16` (R122). -/
theorem push16_ram (w : Word) : (push16 w s).ram =
    cellWrite (cellWrite s.ram (pushSlot s 0) (highByte w)) (pushSlot s 1) (lowByte w) := by
  rw [push16_eq, pushSlot_zero, pushSlot_one]

theorem cellRead_push16_high (w : Word) : cellRead (push16 w s).ram (pushSlot s 0) = highByte w := by
  rw [push16_ram, cellRead_write_other _ _ (pushSlot_zero_ne_one s), cellRead_write_same]

theorem cellRead_push16_low (w : Word) : cellRead (push16 w s).ram (pushSlot s 1) = lowByte w := by
  rw [push16_ram, cellRead_write_same]

/-- The first pull after `Push16` is of its last slot. -/
theorem pull8_push16 (w : Word) : pull8 (push16 w s) =
    (lowByte w, { s with ram := vacate s 1 (push16 w s).ram, cpu := { s.cpu with s := s.cpu.s - 1 } }) := by
  simp [pull8_eq, push16_eq, vacate, pushSlot_one]

/-- `Pull16` after `Push16` (R122, R123): the word, and the state of before but for the two slots. -/
theorem pull16_push16 (w : Word) :
    pull16 (push16 w s) = (w, s.withRam (vacate s 0 (vacate s 1 (push16 w s).ram))) := by
  have hhigh : cellRead (vacate s 1 (push16 w s).ram) (pushSlot s 0) = highByte w := by
    rw [cellRead_vacate_other _ (pushSlot_zero_ne_one s), cellRead_push16_high]
  rw [pushSlot_zero] at hhigh
  simp only [pull16, pull8_push16]
  simp [pull8_eq, hhigh, State.withRam, vacate.eq_def s 0, pushSlot_zero]

/-- Neither the push nor the pull of a word changes a byte outside its two slots. -/
theorem peek_pull16_push16 (w : Word) {a : Word} (hport : isPort a = false) (h0 : target a ≠ .ram (pushSlot s 0))
    (h1 : target a ≠ .ram (pushSlot s 1)) : peek (pull16 (push16 w s)).2 a = peek s a := by
  have hle : ∀ k, pushSlot s k ≤ 0x1FFF := fun k => (pushSlot_le s k).trans (by decide)
  rw [pull16_push16, peek_withRam_vacate _ hport h0, peek_withRam_vacate _ hport h1, push16_ram,
    peek_withRam_cellWrite _ _ _ (hle 1) hport h1, peek_withRam_cellWrite _ _ _ (hle 0) hport h0]
  rfl

end Sys2Proof.Machine

namespace Sys2Proof.Proofs

open Sys2Proof.Machine

/-- Settles O32: a word pulled after it was pushed comes back with the state of before but for the two slots. -/
theorem pushPullWord : Obligations.PushPullWord := by
  intro s w
  refine ⟨rfl, rfl, pushSlot_zero_eq_one_add_one s, ?word, ?cpu, fun a => peek_pull16_push16 s w, fun hkeep => ?kept⟩
  case word => rw [pull16_push16]
  case cpu => rw [pull16_push16, State.withRam_cpu]
  case kept =>
    refine ⟨?_, cellRead_push16_high s w, cellRead_push16_low s w⟩
    rw [pull16_push16, vacate_keep hkeep, vacate_keep hkeep, State.withRam]

end Sys2Proof.Proofs
end

section
/-! PROOF. The addressing modes without a pointer (R256 to R259, R265): effective addresses and page crossings as
arithmetic, and the mnemonics that use `zpy` and `rel`. -/

namespace Sys2Proof.Machine

/-! ## Addresses as arithmetic -/

theorem zeroPage_eq_ofNat (o : Byte) : zeroPage o = BitVec.ofNat 16 o.toNat := (BitVec.ofNat_toNat 16 o).symm

/-- Zero-page indexing wraps within page 0 (R257, R258). -/
theorem zeroPage_add_eq_ofNat (o x : Byte) : zeroPage (o + x) = BitVec.ofNat 16 ((o.toNat + x.toNat) % 256) := by
  rw [zeroPage_eq_ofNat, BitVec.toNat_add]

/-- A branch target is a sum of integers modulo 2^16 (R265). -/
theorem add_signExtend_eq_ofInt (pc : Word) (o : Byte) :
    pc + o.signExtend 16 = BitVec.ofInt 16 ((pc.toNat : Int) + o.toInt) := by
  rw [BitVec.ofInt_add, BitVec.ofInt_natCast, BitVec.ofNat_toNat, BitVec.setWidth_eq, BitVec.signExtend]

/-- Two addresses are on different pages when their quotients by 256 differ (R260). -/
theorem pageCrossed_eq_decide (base ea : Word) :
    pageCrossed base ea = decide (base.toNat / 256 ≠ ea.toNat / 256) := by
  simp only [pageCrossed, ne_eq, ← BitVec.toNat_inj, highByte_toNat]

end Sys2Proof.Machine

namespace Sys2Proof

/-! ## The mnemonics of a mode (R204) -/

/-- Only LDX and STX index the zero page by `Y` (R258). -/
theorem mnemonic_of_operand_zpy {i : Instr} {o : Byte} (h : i.entry.operand = .zpy o) :
    i.entry.mnemonic = .ldx ∨ i.entry.mnemonic = .stx := by
  cases i with
  | ldxZpy _ => exact .inl rfl
  | stxZpy _ => exact .inr rfl
  | _ => cases h

/-- Only the eight branches are relative (R265). -/
theorem mnemonic_of_operand_rel {i : Instr} {o : Byte} (h : i.entry.operand = .rel o) :
    i.entry.mnemonic ∈ ([.bcc, .bcs, .beq, .bne, .bmi, .bpl, .bvc, .bvs] : List Mnemonic) := by
  cases i with
  | bcc _ | bcs _ | beq _ | bne _ | bmi _ | bpl _ | bvc _ | bvs _ => simp [Instr.entry]
  | _ => cases h

end Sys2Proof

namespace Sys2Proof.Proofs

open Sys2Proof.Machine

/-- Settles O13: each mode's address is its sum as arithmetic, and the listing's rows give the mnemonics. -/
theorem directAddresses : Obligations.DirectAddresses := by
  intro s o w
  refine ⟨?zp, ?zpx, ?zpy, rfl, add_signExtend_eq_ofInt s.cpu.pc o, rfl, pageCrossed_eq_decide s.cpu.pc _,
    fun _ => mnemonic_of_operand_zpy, fun _ => mnemonic_of_operand_rel⟩
  case zp => rw [resolve, zeroPage_eq_ofNat]
  case zpx => rw [resolve, zeroPage_add_eq_ofNat]
  case zpy => rw [resolve, zeroPage_add_eq_ofNat]

end Sys2Proof.Proofs
end

section
/-! PROOF. Encoding (R200, R203, R204, R210): the opcode map sends the opcode of each instruction to its constructor, so that
decoding and encoding are inverse to each other. -/

namespace Sys2Proof

/-- What the map says of the opcode of `i`: the constructor of `i`, with as many operand bytes as the format reads. -/
def Instr.Mapped (i : Instr) : Prop :=
  (opcodeMap i.opcode = .f1 i ∧ operandBytes i.entry.operand = []) ∨
  (∃ mk o, opcodeMap i.opcode = .f2 mk ∧ mk o = i ∧ operandBytes i.entry.operand = [o]) ∨
  ∃ mk w, opcodeMap i.opcode = .f3 mk ∧ mk w = i ∧ operandBytes i.entry.operand = [lowByte w, highByte w]

/-- Every row of the listing R204 stands in the map R203. -/
theorem Instr.mapped (i : Instr) : i.Mapped := by
  unfold Instr.Mapped
  cases i <;> simp only [Instr.opcode, Instr.entry, operandBytes] <;> first
    | exact .inl ⟨rfl, trivial⟩
    | exact .inr (.inl ⟨_, _, rfl, rfl, rfl⟩)
    | exact .inr (.inr ⟨_, _, rfl, rfl, rfl⟩)

/-- The bytes of an instruction decode to it, whatever follows. -/
theorem decode_encode_append (i : Instr) (rest : List Byte) : decode (encode i ++ rest) = .ok (i, rest) := by
  unfold encode
  obtain ⟨hmap, hbytes⟩ | ⟨mk, o, hmap, rfl, hbytes⟩ | ⟨mk, w, hmap, rfl, hbytes⟩ := i.mapped
  · rw [hbytes]
    exact decode_f1 rest hmap
  · rw [hbytes]
    exact decode_f2 o rest hmap
  · rw [hbytes]
    simpa using decode_f3 (lowByte w) (highByte w) rest hmap

/-- Bytes that decode to an instruction are its encoding and the bytes left. -/
theorem encode_append_of_decode {bs rest : List Byte} {i : Instr} (h : decode bs = .ok (i, rest)) :
    encode i ++ rest = bs := by
  cases bs with
  | nil => cases h
  | cons op bs =>
    have hrow := opcodeMap_listing op
    simp only [decode] at h
    unfold encode
    split at h
    · cases h
    · next j hj =>
      cases h
      rw [hj] at hrow
      obtain ⟨hop, -, hbytes⟩ := hrow
      rw [hop, hbytes]
      rfl
    · next mk o r hj =>
      cases h
      rw [hj] at hrow
      obtain ⟨hop, -, hbytes⟩ := hrow o
      rw [hop, hbytes]
      rfl
    · cases h
    · next mk lo hi r hj =>
      cases h
      rw [hj] at hrow
      obtain ⟨hop, -, hbytes⟩ := hrow (wordOf lo hi)
      rw [hop, hbytes, Machine.lowByte_wordOf, Machine.highByte_wordOf]
      rfl
    · cases h

theorem decode_unwired {op : Byte} (rest : List Byte) (h : opcodeMap op = .unwired) :
    decode (op :: rest) = .error (.unwiredOpcode op) := by simp [decode, h]

/-- The map has no instruction at a byte. -/
def Format.isUnwired : Format → Bool
  | .unwired => true
  | _ => false

theorem Format.isUnwired_iff (f : Format) : f.isUnwired = true ↔ f = .unwired := by
  cases f <;> simp [isUnwired]

/-- The bytes column of the listing (R268). -/
theorem entry_bytes_eq_length (i : Instr) : i.entry.bytes = (encode i).length := by
  cases i <;> rfl

end Sys2Proof

namespace Sys2Proof.Proofs

open Sys2Proof.Machine

/-- Settles O1: the map sends each opcode to its constructor, and each constructor of the map has the opcode it stands at. -/
theorem decodeEncodeAgree : Obligations.DecodeEncodeAgree :=
  ⟨decode_encode_append, fun _ _ _ => encode_append_of_decode⟩

/-- Settles O2: the map has 256 cells. -/
theorem unwiredBytes : Obligations.UnwiredBytes := by
  refine ⟨fun op => ?_, fun _ => decode_unwired⟩
  rw [← Format.isUnwired_iff]
  revert op
  decide

/-- Settles O3: the words and the rows are computed from the map and the listing. -/
theorem wordsDecode : Obligations.WordsDecode := by
  refine ⟨rfl, rfl, rfl, rfl, rfl, rfl, rfl, rfl, rfl, rfl, entry_bytes_eq_length, fun i => ?_⟩
  cases i <;> rfl

end Sys2Proof.Proofs
end

section
/-! PROOF. What CPU accesses, dots and ticks do to the parts of the machine the invariants speak of (R51, R58, R650, R733,
R853). -/

namespace Sys2Proof.Machine

/-! ## What no CPU access touches -/

/-- What no CPU access changes: the PPU's position and line list, the APU's tick count and noise shift register, and the
button mask. -/
def State.SameDevices (s t : State) : Prop :=
  (t.ppu.scanline = s.ppu.scanline ∧ t.ppu.dot = s.ppu.dot ∧ t.ppu.lineSprites = s.ppu.lineSprites) ∧
  (t.apu.cycles = s.apu.cycles ∧ t.apu.noise.lfsr = s.apu.noise.lfsr) ∧ t.pad.buttons = s.pad.buttons

theorem State.SameDevices.refl (s : State) : s.SameDevices s := ⟨⟨rfl, rfl, rfl⟩, ⟨rfl, rfl⟩, rfl⟩

theorem State.SameDevices.trans {s t u : State} (h : s.SameDevices t) (h' : t.SameDevices u) : s.SameDevices u := by
  obtain ⟨⟨h1, h2, h3⟩, ⟨h4, h5⟩, h6⟩ := h
  obtain ⟨⟨k1, k2, k3⟩, ⟨k4, k5⟩, k6⟩ := h'
  exact ⟨⟨k1.trans h1, k2.trans h2, k3.trans h3⟩, ⟨k4.trans h4, k5.trans h5⟩, k6.trans h6⟩

theorem State.SameDevices.onFrame {s t : State} (h : s.SameDevices t) (hs : s.onFrame) : t.onFrame := by
  obtain ⟨⟨hl, hd, -⟩, -, -⟩ := h
  unfold State.onFrame
  rwa [hl, hd]

theorem State.SameDevices.position {s t : State} (h : s.SameDevices t) : t.position = s.position := by
  obtain ⟨⟨hl, hd, -⟩, -, -⟩ := h
  unfold State.position
  rw [hl, hd]

theorem memRead_sameDevices (a : Word) (s : State) : s.SameDevices (memRead a s).2 := by
  obtain ⟨vb, w, buf, v, irq, pos, h⟩ := memRead_effect a s
  rw [h]
  exact State.SameDevices.refl s

/-- A frame clock leaves the tick count and the noise shift register (R736, R737). -/
theorem writeFrameCounter_keeps (a : Apu) (v : Byte) :
    (writeFrameCounter a v).cycles = a.cycles ∧ (writeFrameCounter a v).noise.lfsr = a.noise.lfsr := by
  unfold writeFrameCounter
  simp only
  split <;> exact ⟨rfl, rfl⟩

/-- No register write changes the tick count or the noise shift register (R710 to R722). -/
theorem apuWrite_keeps {a b : Apu} {p : Nat} {v : Byte} (h : apuWrite a p v = some b) :
    b.cycles = a.cycles ∧ b.noise.lfsr = a.noise.lfsr := by
  unfold apuWrite at h
  iterate 9 (split at h; · injection h with h; subst h; exact ⟨rfl, rfl⟩)
  split at h
  · injection h with h
    subst h
    exact writeFrameCounter_keeps a v
  · cases h

theorem ppuWrite_sameDevices (s : State) (a : Nat) (v : Byte) : s.SameDevices (ppuWrite s a v) := by
  unfold ppuWrite patternWrite
  simp only
  split
  · split <;> exact State.SameDevices.refl s
  · split <;> exact State.SameDevices.refl s

theorem portWrite_sameDevices (s : State) (p : Nat) (v : Byte) : s.SameDevices (portWrite s p v) := by
  unfold portWrite
  iterate 4 (split; · exact State.SameDevices.refl s)
  split
  · unfold writeScroll; split <;> exact State.SameDevices.refl s
  split
  · unfold writeAddr; split <;> exact State.SameDevices.refl s
  split
  · exact ppuWrite_sameDevices s _ v
  split
  · obtain ⟨vb, w, buf, v', oam, irq, pos, h⟩ := oamDmaCopy_effect v 256 s
    rw [oamDma, h]
    exact State.SameDevices.refl s
  split
  · exact State.SameDevices.refl s
  split
  · next a ha => exact ⟨⟨rfl, rfl, rfl⟩, apuWrite_keeps ha, rfl⟩
  · exact State.SameDevices.refl s

theorem memWrite_sameDevices (a : Word) (v : Byte) (s : State) : s.SameDevices (memWrite a v s) := by
  unfold memWrite
  split
  · exact State.SameDevices.refl s
  · exact portWrite_sameDevices s _ v
  · unfold cartLowWrite
    split <;> exact State.SameDevices.refl s
  · exact State.SameDevices.refl s

theorem memWrite_cycles_le (a : Word) (v : Byte) (s : State) : s.cycles ≤ (memWrite a v s).cycles := by
  obtain ⟨_, _, _, _, _, _, n, h⟩ := memWrite_effect a v s
  rw [h]
  exact Nat.le_add_right _ n

/-- An instruction, an interrupt entry and a fault leave those parts alone and count cycles upwards. -/
theorem sameDevices_preserved (s : State) : Preserved fun t => s.SameDevices t ∧ s.cycles ≤ t.cycles where
  read a t ht := ⟨ht.1.trans (memRead_sameDevices a t), (memRead_cycles a t).symm ▸ ht.2⟩
  write a v t ht := ⟨ht.1.trans (memWrite_sameDevices a v t), ht.2.trans (memWrite_cycles_le a v t)⟩
  cpu _ _ ht := ht
  cycles n _ ht := ⟨ht.1, ht.2.trans (Nat.le_add_right _ n)⟩
  fault _ _ ht := ht

/-! ## The counters of the MMC1 and the joypad -/

theorem padAdvance_pos_le {p : Pad} (h : p.pos ≤ 8) : (padAdvance p).pos ≤ 8 := by
  unfold padAdvance
  split
  · next hlt => exact hlt.2
  · exact h

theorem padWrite_pos_le {p : Pad} (v : Byte) (h : p.pos ≤ 8) : (padWrite p v).pos ≤ 8 := by
  unfold padWrite
  simp only
  split
  · exact Nat.zero_le 8
  · exact h

/-- The fifth serial write empties the shift register (R175). -/
theorem mmc1Write_count_le {r : Mmc1} (m : Nat) (v : Byte) (h : r.count ≤ 4) : (mmc1Write r m v).count ≤ 4 := by
  unfold mmc1Write
  simp only
  split
  · exact Nat.zero_le 4
  split
  · repeat' split
    all_goals exact Nat.zero_le 4
  · simp only
    omega

/-- The bound of `State.countersOk` on the mapper. -/
def Mapper.countOk : Mapper → Prop
  | .mmc1 r => r.count ≤ 4
  | _ => True

theorem mapperWrite_countOk {mp : Mapper} (n m : Nat) (v : Byte) (h : mp.countOk) :
    (mapperWrite mp n m v).countOk := by
  cases mp with
  | mmc1 r => exact mmc1Write_count_le m v h
  | _ => trivial

theorem portRead_pos_le (s : State) (p : Nat) (h : s.pad.pos ≤ 8) : (portRead s p).2.pad.pos ≤ 8 := by
  unfold portRead
  iterate 2 (split; · exact h)
  split
  · unfold readData
    simp only
    split <;> exact h
  split
  · exact h
  split
  · exact padAdvance_pos_le h
  · exact h

theorem memRead_countersOk (a : Word) (s : State) (h : s.countersOk) : (memRead a s).2.countersOk := by
  obtain ⟨hpos, hmap⟩ := h
  refine ⟨?_, (memRead_mapper a s).symm ▸ hmap⟩
  unfold memRead
  split
  · exact hpos
  · exact portRead_pos_le s _ hpos
  · exact hpos
  · exact hpos

theorem oamDmaCopy_countersOk (page : Byte) (n : Nat) (s : State) (h : s.countersOk) :
    (oamDmaCopy page n s).countersOk := by
  induction n generalizing s with
  | zero => exact h
  | succ n ih => exact ih _ (memRead_countersOk _ s h)

theorem ppuWrite_countersOk (s : State) (a : Nat) (v : Byte) (h : s.countersOk) : (ppuWrite s a v).countersOk := by
  unfold ppuWrite patternWrite
  simp only
  split
  · split <;> exact h
  · split <;> exact h

theorem portWrite_countersOk (s : State) (p : Nat) (v : Byte) (h : s.countersOk) : (portWrite s p v).countersOk := by
  unfold portWrite
  obtain ⟨hpos, hmap⟩ := h
  iterate 6 (split; · exact ⟨hpos, hmap⟩)
  split
  · exact ppuWrite_countersOk s _ v ⟨hpos, hmap⟩
  split
  · have hcopy := oamDmaCopy_countersOk v 256 s ⟨hpos, hmap⟩
    unfold oamDma
    generalize oamDmaCopy v 256 s = u at hcopy
    exact hcopy
  split
  · exact ⟨padWrite_pos_le v hpos, hmap⟩
  split <;> exact ⟨hpos, hmap⟩

theorem memWrite_countersOk (a : Word) (v : Byte) (s : State) (h : s.countersOk) : (memWrite a v s).countersOk := by
  unfold memWrite
  split
  · exact h
  · exact portWrite_countersOk s _ v h
  · unfold cartLowWrite
    split <;> exact h
  · exact ⟨h.1, mapperWrite_countOk _ _ v h.2⟩

/-! ## The line's sprites -/

/-- The scan of R650 collects at most eight of the entries it is given. -/
theorem scanSprites_bounded (p : Ppu) (l : Nat) {entries found : List Nat} (hlen : found.length ≤ 8)
    (hf : ∀ i ∈ found, i < 64) (he : ∀ i ∈ entries, i < 64) :
    (scanSprites p l entries found).1.length ≤ 8 ∧ ∀ i ∈ (scanSprites p l entries found).1, i < 64 := by
  induction entries generalizing found with
  | nil => exact ⟨hlen, hf⟩
  | cons i rest ih =>
    have hrest : ∀ j ∈ rest, j < 64 := fun j hj => he j (List.mem_cons_of_mem _ hj)
    unfold scanSprites
    split
    · split
      · next hlt =>
        refine ih (by simpa using hlt) (fun j hj => ?_) hrest
        rcases List.mem_append.mp hj with hj | hj
        · exact hf j hj
        · rw [List.mem_singleton.mp hj]
          exact he i (List.mem_cons_self ..)
      · exact ⟨hlen, hf⟩
    · exact ih hlen hf hrest

theorem evaluateSprites_lineOk (s : State) (l : Nat) : (s.withPpu (evaluateSprites s.ppu l)).lineOk := by
  unfold evaluateSprites
  split
  · exact scanSprites_bounded s.ppu l (Nat.zero_le 8) (by simp) (by simp)
  · exact ⟨Nat.zero_le 8, by simp⟩

theorem composePixel_lineSprites (s : State) (l d : Nat) : (composePixel s l d).ppu.lineSprites = s.ppu.lineSprites := by
  obtain ⟨z, fb, f, h⟩ := composePixel_effect s l d
  rw [h]

theorem dotPixel_lineOk (s : State) (h : s.lineOk) : (dotPixel s).lineOk := by
  unfold dotPixel
  simp only
  split
  · unfold State.lineOk
    rw [composePixel_lineSprites]
    split
    · exact evaluateSprites_lineOk s _
    · exact h
  · exact h

theorem advanceDot_lineSprites (p : Ppu) : (advanceDot p).lineSprites = p.lineSprites := by
  unfold advanceDot
  split <;> rfl

theorem dotEvents_lineSprites (params : Params) (l d : Nat) (on : Bool) (p : Ppu) :
    (dotEvents params l d on p).lineSprites = p.lineSprites := by
  obtain ⟨vb, sh, o, v, n, sl, z, h⟩ := dotEvents_effect params l d on p
  rw [h]

theorem ppuDot_lineOk (s : State) (h : s.lineOk) : (ppuDot s).lineOk := by
  have hp := dotPixel_lineOk s h
  cases hf : (dotPixel s).fault with
  | some f => rwa [ppuDot_stopped hf]
  | none =>
    rw [ppuDot_next hf]
    unfold State.lineOk
    rwa [State.withPpu_ppu, advanceDot_lineSprites, dotEvents_lineSprites]

/-! ## The position -/

/-- A dot of the frame leads to a dot of the frame; where the pixel stops, it is the same dot (R504, R641). -/
theorem ppuDot_onFrame (s : State) (h : s.onFrame) : (ppuDot s).onFrame := by
  obtain ⟨hl, hd⟩ := h
  cases hf : (ppuDot s).fault with
  | none =>
    obtain ⟨hdot, hline⟩ := ppuDot_position hf
    unfold State.onFrame
    rw [hdot, hline]
    constructor
    · repeat' split
      all_goals omega
    · split <;> omega
  | some f =>
    have hp : ∃ f, (dotPixel s).fault = some f := by
      cases hp : (dotPixel s).fault with
      | some f => exact ⟨f, rfl⟩
      | none => simp [ppuDot_next hp, hp] at hf
    obtain ⟨f', hf'⟩ := hp
    rw [ppuDot_stopped hf']
    obtain ⟨hdot, hline⟩ := dotPixel_position s
    unfold State.onFrame
    rw [hdot, hline]
    exact ⟨hl, hd⟩

/-- Over a dot without a fault the position steps by one (R640, R641). -/
theorem ppuDot_position_succ {s : State} (h : s.onFrame) (hf : (ppuDot s).fault = none) :
    (ppuDot s).position = (s.position + 1) % 89342 := by
  obtain ⟨hl, hd⟩ := h
  obtain ⟨hdot, hline⟩ := ppuDot_position hf
  unfold State.position
  rw [hdot, hline]
  split
  · split <;> omega
  · omega

/-! ## Faults of a dot -/

theorem composePixel_fault_of {s : State} {l d : Nat} (h : (composePixel s l d).fault = none) : s.fault = none := by
  unfold composePixel at h
  simp only at h
  split at h
  · cases h
  · exact h

/-- No dot clears a fault (R500). -/
theorem ppuDot_fault_of {s : State} (h : (ppuDot s).fault = none) : s.fault = none := by
  have hp := dotPixel_fault_of h
  unfold dotPixel at hp
  simp only at hp
  split at hp
  · have := composePixel_fault_of hp
    split at this <;> exact this
  · exact hp

theorem afterDots_fault_of {n : Nat} {s : State} (h : (afterDots n s).fault = none) : s.fault = none := by
  induction n generalizing s with
  | zero => exact h
  | succ n ih => exact ppuDot_fault_of (ih h)

/-- `n` dots without a fault step the position `n` times (R640, R641). -/
theorem afterDots_position {n : Nat} {s : State} (h : s.onFrame) (hf : (afterDots n s).fault = none) :
    (afterDots n s).onFrame ∧ (afterDots n s).position = (s.position + n) % 89342 := by
  induction n generalizing s with
  | zero =>
    obtain ⟨hl, hd⟩ := h
    refine ⟨⟨hl, hd⟩, ?_⟩
    unfold afterDots State.position
    omega
  | succ n ih =>
    obtain ⟨hframe, hpos⟩ := ih (ppuDot_onFrame s h) hf
    refine ⟨hframe, ?_⟩
    rw [afterDots, hpos, ppuDot_position_succ h (afterDots_fault_of hf)]
    omega

/-! ## The noise shift register -/

/-- A shift register that is not 0 never becomes 0 (R733). -/
theorem lfsrNext_ne_zero (mode : Bool) {l : BitVec 15} (h : l ≠ 0) : lfsrNext mode l ≠ 0 := by
  intro h0
  have hne : l.toNat ≠ 0 := fun e => h (BitVec.eq_of_toNat_eq e)
  have hlt := l.isLt
  rw [lfsrNext_eq] at h0
  have hv := congrArg BitVec.toNat h0
  generalize hfb : (l.toNat % 2 + l.toNat / (if mode = true then 64 else 2) % 2) % 2 = fb at hv
  have hzero : l.toNat / 2 = 0 ∧ fb = 0 := by
    rw [BitVec.toNat_ofNat, Nat.mod_eq_of_lt (by omega)] at hv
    change _ = 0 at hv
    omega
  have hone : l.toNat = 1 := by omega
  rw [hone, hzero.2] at hfb
  cases mode <;> cases hfb

theorem frameSequencerTick_lfsr (a : Apu) : (frameSequencerTick a).noise.lfsr = a.noise.lfsr := by
  unfold frameSequencerTick frameEvents
  simp only
  repeat' split
  all_goals rfl

theorem noiseTimer_lfsr_ne_zero (periods : List Nat) {n : Noise} (h : n.lfsr ≠ 0) : (noiseTimer periods n).lfsr ≠ 0 := by
  unfold noiseTimer
  split
  · exact lfsrNext_ne_zero n.mode h
  · exact h

theorem apuTickOf_lfsr (params : Params) (a : Apu) :
    (apuTickOf params a).noise.lfsr = (channelTimers params a).noise.lfsr := by
  unfold apuTickOf sampleTick
  simp only
  split <;> exact frameSequencerTick_lfsr _

theorem apuTickOf_lfsr_ne_zero (params : Params) {a : Apu} (h : a.noise.lfsr ≠ 0) :
    (apuTickOf params a).noise.lfsr ≠ 0 := by
  rw [apuTickOf_lfsr]
  unfold channelTimers
  split
  · exact noiseTimer_lfsr_ne_zero _ h
  · exact h

end Sys2Proof.Machine
end

section
/-! PROOF. The loop step (R250, R500 to R505, R520, R850, R851, R853): its parts in order, and what it keeps. -/

namespace Sys2Proof.Machine

/-! ## The parts of a step -/

/-- A fault of the instruction ends the step (R503). -/
theorem afterInstr_of_fault {s t : State} (h : t.fault ≠ none) : afterInstr s t = t := by
  unfold afterInstr
  split
  · rfl
  · next hn => exact absurd hn h

/-- A colour fault ends the step where it is raised (R504). -/
theorem afterInstr_of_stopped {s t : State} (h : t.fault = none) (hm : (mirrorCycles s t).fault ≠ none) :
    afterInstr s t = mirrorCycles s t := by
  unfold afterInstr
  rw [h]
  simp only
  split
  · rfl
  · next hn => exact absurd hn hm

/-- Otherwise the devices advance and the NMI check follows (R850). -/
theorem afterInstr_of_mirrored {s t : State} (h : t.fault = none) (hm : (mirrorCycles s t).fault = none) :
    afterInstr s t = nmiCheck (mirrorCycles s t) := by
  unfold afterInstr
  rw [h]
  simp only [hm]

theorem nmiCheck_idle {s : State} (h : s.ppu.nmiPending = false) : nmiCheck s = s := by
  unfold nmiCheck
  rw [h]
  rfl

/-- A pending NMI is cleared and entered, and the entry's cycles are mirrored unless its stack check faulted (R520). -/
theorem nmiCheck_pending {s : State} (h : s.ppu.nmiPending = true) :
    nmiCheck s = if (nmiEntry (pullNmi s)).fault = none then mirrorCycles (pullNmi s) (nmiEntry (pullNmi s))
      else nmiEntry (pullNmi s) := by
  unfold nmiCheck
  rw [if_pos h]
  simp only
  split
  · next f hf => rw [if_neg (by rw [hf]; exact Option.some_ne_none f)]
  · next hn => rw [if_pos hn]

/-! ## Unwired opcodes -/

theorem wired_fetch_unwired {s : State} (h : s.params.wired (peek s s.cpu.pc) = false ∨
    opcodeMap (peek s s.cpu.pc) = .unwired) :
    fetchInstr s = .unwired (peek s s.cpu.pc) (memRead s.cpu.pc s).2 := by
  unfold fetchInstr
  simp only [peek] at h ⊢
  rcases h with h | h
  · rw [h]
    rfl
  · rw [h]
    split <;> rfl

theorem step_of_fetch_unwired {s s1 : State} {op : Byte} (hf : s.fault = none) (h : fetchInstr s = .unwired op s1) :
    step s = .next (faultUnwired op s1) := by
  unfold step
  rw [hf, h]

theorem step_of_fetch_instr {s s1 : State} {i : Instr} (hf : s.fault = none) (h : fetchInstr s = .instr i s1) :
    step s = completeStep s1 (exec i s1) := by
  obtain ⟨t, ht⟩ := exec_next i s1
  unfold step
  rw [hf, h]
  simp only
  rw [ht]
  rfl

/-! ## Dots do not read the APU -/

section
variable (s : State) (a : Apu)

theorem firstSprite_withApu (l d : Nat) (entries : List Nat) :
    firstSprite (s.withApu a) l d entries = firstSprite s l d entries := by
  induction entries with
  | nil => rfl
  | cons i rest ih =>
    unfold firstSprite
    rw [ih]
    rfl

theorem composeEntry_withApu (l d : Nat) : composeEntry (s.withApu a) l d = composeEntry s l d := by
  unfold composeEntry spritePixel
  rw [firstSprite_withApu]
  rfl

theorem composePixel_withApu (l d : Nat) : composePixel (s.withApu a) l d = (composePixel s l d).withApu a := by
  unfold composePixel
  rw [composeEntry_withApu]
  simp only [State.withApu_ppu]
  rw [apply_ite (fun t : State => t.withApu a)]
  rfl

theorem dotPixel_withApu : dotPixel (s.withApu a) = (dotPixel s).withApu a := by
  unfold dotPixel
  simp only [State.withApu_ppu]
  rw [apply_ite (fun t : State => t.withApu a), ← composePixel_withApu, apply_ite (fun t : State => t.withApu a)]
  rfl

theorem ppuDot_withApu : ppuDot (s.withApu a) = (ppuDot s).withApu a := by
  cases hf : (dotPixel s).fault with
  | some f =>
    rw [ppuDot_stopped hf, ← dotPixel_withApu]
    exact ppuDot_stopped (f := f) (by rw [dotPixel_withApu]; exact hf)
  | none =>
    rw [ppuDot_next hf, ppuDot_next (by rw [dotPixel_withApu]; exact hf), dotPixel_withApu]
    rfl

theorem afterDots_withApu (n : Nat) : afterDots n (s.withApu a) = (afterDots n s).withApu a := by
  induction n generalizing s with
  | zero => rfl
  | succ n ih => rw [afterDots, ppuDot_withApu, ih, afterDots]

end

/-! ## The device advance -/

/-- One CPU cycle without a fault is three dots, then one tick (R851). -/
theorem advanceOne_eq {s : State} (h : (advanceOne s).fault = none) :
    advanceOne s = apuTick (afterDots 3 s) ∧ (afterDots 3 s).fault = none := by
  obtain ⟨-, -, h3, he⟩ := advanceOne_fault h
  exact ⟨he, h3⟩

/-- Dots change the PPU alone, while none faults. -/
theorem afterDots_eq {n : Nat} {s : State} (h : (afterDots n s).fault = none) :
    afterDots n s = s.withPpu (afterDots n s).ppu := by
  induction n generalizing s with
  | zero => rfl
  | succ n ih =>
    obtain ⟨p, f, he, -⟩ := ppuDot_effect s
    have hdot : (ppuDot s).fault = none := afterDots_fault_of h
    have hs : s.fault = none := ppuDot_fault_of hdot
    have hf : ppuDot s = s.withPpu p := by
      rw [he] at hdot ⊢
      change f = none at hdot
      rw [hdot, ← hs]
      rfl
    have := ih (s := ppuDot s) h
    rw [afterDots, this, hf]
    rfl

theorem afterDots_add (m n : Nat) (s : State) : afterDots (m + n) s = afterDots n (afterDots m s) := by
  induction m generalizing s with
  | zero => rw [Nat.zero_add, afterDots]
  | succ m ih => rw [Nat.succ_add, afterDots, ih, afterDots]

/-- `n` cycles of the devices without a fault are `3n` dots and `n` ticks (R851). -/
theorem advanceDevices_eq {n : Nat} {s : State} (h : (advanceDevices n s).fault = none) :
    advanceDevices n s = (s.withPpu (afterDots (3 * n) s).ppu).withApu (afterTicks s.params n s.apu) ∧
    (afterDots (3 * n) s).fault = none := by
  induction n generalizing s with
  | zero => exact ⟨rfl, h⟩
  | succ n ih =>
    obtain ⟨hone, hadv⟩ := advanceDevices_succ h
    obtain ⟨hstate, hdots⟩ := advanceOne_eq hone
    rw [hadv] at h
    obtain ⟨hrest, hfault⟩ := ih h
    have hcycle : advanceOne s = (afterDots 3 s).withApu (apuTickOf s.params s.apu) := by
      rw [hstate, apuTick, afterDots_eq hdots]
      rfl
    rw [hcycle, afterDots_withApu, State.withApu_fault] at hfault
    rw [hadv, hrest, hcycle, afterDots_withApu, Nat.mul_add, Nat.mul_one, Nat.add_comm, afterDots_add]
    refine ⟨?_, hfault⟩
    rw [afterDots_eq hdots]
    rfl

theorem afterTicks_cycles (params : Params) (n : Nat) (a : Apu) : (afterTicks params n a).cycles = a.cycles + n := by
  induction n generalizing a with
  | zero => rfl
  | succ n ih => rw [afterTicks, ih, apuTickOf_cycles, Nat.add_assoc, Nat.add_comm 1]

/-! ## In step (R853) -/

theorem advanceDevices_onFrame (n : Nat) {s : State} (h : s.onFrame) : (advanceDevices n s).onFrame :=
  advanceDevices_preserved (P := State.onFrame) ppuDot_onFrame (fun _ ht => ht) n h

/-- Devices that are in step at `s` are in step again when they have advanced by the cycles counted since `s`. -/
theorem mirrorCycles_inStep {s t : State} (hs : s.inStep) (hf : s.fault = none) (hd : s.SameDevices t)
    (hc : s.cycles ≤ t.cycles) : (mirrorCycles s t).inStep := by
  obtain ⟨hframe, hstep⟩ := hs
  obtain ⟨hticks, hdots⟩ := hstep hf
  have htframe : t.onFrame := hd.onFrame hframe
  refine ⟨advanceDevices_onFrame _ htframe, fun hend => ?_⟩
  obtain ⟨heq, hfault⟩ := advanceDevices_eq hend
  obtain ⟨-, hpos⟩ := afterDots_position htframe hfault
  obtain ⟨-, ⟨hcycles, -⟩, -⟩ := id hd
  have happ : (mirrorCycles s t).apu.cycles = t.apu.cycles + (t.cycles - s.cycles) := by
    rw [mirrorCycles, heq, State.withApu_apu, afterTicks_cycles]
  have hposition : (mirrorCycles s t).position = (afterDots (3 * (t.cycles - s.cycles)) t).position := by
    rw [mirrorCycles, heq]
    rfl
  have hsame : (mirrorCycles s t).cycles = t.cycles := advanceDevices_cycles _ _
  rw [happ, hposition, hpos, hsame, hcycles, hd.position, hticks, hdots]
  omega

theorem pullNmi_inStep {s : State} (h : s.inStep) : (pullNmi s).inStep := h

theorem nmiCheck_inStep {s : State} (hs : s.inStep) (hf : s.fault = none) : (nmiCheck s).inStep := by
  cases hn : s.ppu.nmiPending with
  | false => rwa [nmiCheck_idle hn]
  | true =>
    have hpull : (pullNmi s).inStep := pullNmi_inStep hs
    obtain ⟨hd, hc⟩ := (sameDevices_preserved (pullNmi s)).nmiEntry _ ⟨State.SameDevices.refl _, le_refl _⟩
    rw [nmiCheck_pending hn]
    split
    · exact mirrorCycles_inStep hpull hf hd hc
    · next he => exact ⟨hd.onFrame hpull.1, fun h => absurd h he⟩

theorem afterInstr_inStep {s t : State} (hs : s.inStep) (hf : s.fault = none) (hd : s.SameDevices t)
    (hc : s.cycles ≤ t.cycles) : (afterInstr s t).inStep := by
  have hm := mirrorCycles_inStep hs hf hd hc
  by_cases ht : t.fault = none
  · by_cases hstop : (mirrorCycles s t).fault = none
    · rw [afterInstr_of_mirrored ht hstop]
      exact nmiCheck_inStep hm hstop
    · rw [afterInstr_of_stopped ht hstop]
      exact hm
  · rw [afterInstr_of_fault ht]
    exact ⟨hd.onFrame hs.1, fun h => absurd h ht⟩

/-- What the reads of a fetch keep. -/
theorem memRead_keeps_inStep (a : Word) (s : State) (h : s.inStep ∧ s.fault = none) :
    (memRead a s).2.inStep ∧ (memRead a s).2.fault = none := by
  obtain ⟨⟨hframe, hstep⟩, hf⟩ := h
  have hd := memRead_sameDevices a s
  have hf' : (memRead a s).2.fault = none := by rw [memRead_fault, hf]
  refine ⟨⟨hd.onFrame hframe, fun _ => ?_⟩, hf'⟩
  rw [hd.position, memRead_cycles, hd.2.1.1]
  exact hstep hf

/-! ## The machine invariant -/

theorem onFrame_stepwise : Stepwise State.onFrame where
  read a s h := (memRead_sameDevices a s).onFrame h
  write a v s h := (memWrite_sameDevices a v s).onFrame h
  cpu _ _ h := h
  cycles _ _ h := h
  fault _ _ h := h
  dot := ppuDot_onFrame
  tick _ h := h
  nmi _ h := h

theorem State.SameDevices.lineOk {s t : State} (h : s.SameDevices t) (hs : s.lineOk) : t.lineOk := by
  obtain ⟨⟨-, -, hl⟩, -, -⟩ := h
  unfold State.lineOk
  rwa [hl]

theorem lineOk_stepwise : Stepwise State.lineOk where
  read a s h := (memRead_sameDevices a s).lineOk h
  write a v s h := (memWrite_sameDevices a v s).lineOk h
  cpu _ _ h := h
  cycles _ _ h := h
  fault _ _ h := h
  dot := ppuDot_lineOk
  tick _ h := h
  nmi _ h := h

theorem countersOk_stepwise : Stepwise State.countersOk where
  read := memRead_countersOk
  write := memWrite_countersOk
  cpu _ _ h := h
  cycles _ _ h := h
  fault _ _ h := h
  dot s h := by
    obtain ⟨hpos, hmap⟩ := h
    exact ⟨(ppuDot_pad s).symm ▸ hpos, (ppuDot_mapper s).symm ▸ hmap⟩
  tick _ h := h
  nmi _ h := h

theorem lfsr_stepwise : Stepwise fun s => s.apu.noise.lfsr ≠ 0 where
  read a s h := by rwa [(memRead_sameDevices a s).2.1.2]
  write a v s h := by rwa [(memWrite_sameDevices a v s).2.1.2]
  cpu _ _ h := h
  cycles _ _ h := h
  fault _ _ h := h
  dot s h := by rwa [ppuDot_apu]
  tick s h := apuTickOf_lfsr_ne_zero s.params h
  nmi _ h := h

/-- The configuration and the host's button mask (R47, R58, R60). -/
theorem configuration_stepwise (s : State) :
    Stepwise fun t => t.cart = s.cart ∧ t.params = s.params ∧ t.pad.buttons = s.pad.buttons where
  read a t h := by rwa [memRead_cart, memRead_params, (memRead_sameDevices a t).2.2]
  write a v t h := by rwa [memWrite_cart, memWrite_params, (memWrite_sameDevices a v t).2.2]
  cpu _ _ h := h
  cycles _ _ h := h
  fault _ _ h := h
  dot t h := by rwa [ppuDot_cart, ppuDot_params, ppuDot_pad]
  tick _ h := h
  nmi _ h := h

end Sys2Proof.Machine

namespace Sys2Proof.Proofs

open Sys2Proof.Machine

/-- Settles O9: the devices stand still while the cycles are counted, and then catch up by exactly those cycles. -/
theorem stepKeepsInStep : Obligations.StepKeepsInStep := by
  intro s t hstep hs
  obtain ⟨hf, ⟨op, s1, hfetch, rfl⟩ | ⟨i, s1, s2, hfetch, hexec, rfl⟩⟩ := step_cases hstep
  · obtain ⟨⟨hframe, -⟩, -⟩ := fetch_unwired memRead_keeps_inStep ⟨hs, hf⟩ hfetch
    exact ⟨hframe, fun h => by cases h⟩
  · obtain ⟨h1, hf1⟩ := fetch_instr memRead_keeps_inStep ⟨hs, hf⟩ hfetch
    obtain ⟨hd, hc⟩ := (sameDevices_preserved s1).exec ⟨State.SameDevices.refl s1, le_refl _⟩ hexec
    exact afterInstr_inStep h1 hf1 hd hc

/-- Settles O10: each conjunct of the invariant is kept by every access, update, dot and tick. -/
theorem stepKeepsInv : Obligations.StepKeepsInv := by
  rintro s t hstep ⟨hcanonical, hframe, hline, hcounters, hlfsr⟩
  exact ⟨canonical_stepwise.step hcanonical hstep, onFrame_stepwise.step hframe hstep,
    lineOk_stepwise.step hline hstep, countersOk_stepwise.step hcounters hstep, lfsr_stepwise.step hlfsr hstep⟩

/-- Settles O7: the four cases of the rest of a step. -/
theorem stepOrder : Obligations.StepOrder := by
  intro s t
  refine ⟨afterInstr_of_fault, afterInstr_of_stopped, ?idle, ?pending⟩
  case idle =>
    rintro ht u rfl hu hn
    exact (afterInstr_of_mirrored ht hu).trans (nmiCheck_idle hn)
  case pending =>
    rintro ht u rfl hu hn e rfl
    exact (afterInstr_of_mirrored ht hu).trans (nmiCheck_pending hn)

/-- Settles O8: the dots do not read the APU, so the ticks between them can be counted behind them. -/
theorem threeDotsOneTick : Obligations.ThreeDotsOneTick := fun _ _ h => (advanceDevices_eq h).1

/-- Settles O12. -/
theorem cartridgeIsReadOnly : Obligations.CartridgeIsReadOnly := fun s _ hstep =>
  (configuration_stepwise s).step ⟨rfl, rfl, rfl⟩ hstep

/-- Settles O4: bytes that decode are fetched as the instruction they decode to. -/
theorem stepRunsDecoded : Obligations.StepRunsDecoded := by
  intro s i hf hw hd
  have hrun := step_of_fetch_instr hf (fetchInstr_of_decode hw hd)
  refine ⟨hrun, fun hport => ?_⟩
  rwa [fetchBytes_state hport] at hrun

/-- Settles O5. -/
theorem unwiredOpcodeFaults : Obligations.UnwiredOpcodeFaults := by
  intro s hf h
  rw [step_of_fetch_unwired hf (wired_fetch_unwired h), faultUnwired, raise, memRead_fault, memRead_cpu, hf]
  rfl

/-- Settles O6. -/
theorem faultIsTerminal : Obligations.FaultIsTerminal := ⟨fun _ _ => step_stuck, fun _ => step_next⟩

/-- Settles O11. -/
theorem resetMeetsInvariants : Obligations.ResetMeetsInvariants := by
  have hframe : State.reset.onFrame := by unfold State.onFrame; decide
  refine ⟨⟨reset_canonical, hframe, ⟨Nat.zero_le 8, by decide⟩, ⟨Nat.zero_le 8, trivial⟩, by decide⟩,
    ⟨hframe, fun _ => ⟨rfl, rfl⟩⟩, rfl⟩

/-- Settles O50: each dot without a fault is one step of the position. -/
theorem frameGeometry : Obligations.FrameGeometry := fun _ _ hframe hf => afterDots_position hframe hf

end Sys2Proof.Proofs
end

section
/-! PROOF. The pointer modes (R260 to R264) and the operand read (R255, R266). -/

namespace Sys2Proof.Machine

/-! ## Addresses as arithmetic -/

theorem isPort_eq_false_iff {a : Word} : isPort a = false ↔ ∀ p, target a ≠ .port p := by
  unfold isPort
  cases target a <;> simp

/-- Indexing an absolute address wraps modulo 2^16 (R260). -/
theorem add_setWidth_eq_ofNat (w : Word) (x : Byte) : w + x.setWidth 16 = BitVec.ofNat 16 (w.toNat + x.toNat) := by
  have := x.isLt
  apply BitVec.eq_of_toNat_eq
  rw [BitVec.toNat_add, BitVec.toNat_setWidth, BitVec.toNat_ofNat]
  omega

/-- The high byte's address of a zero-page pointer (R262, R263). -/
theorem pointerHigh_eq_ofNat (params : Params) (p : Byte) : pointerHigh params p =
    BitVec.ofNat 16 (if params.zpPointerWrap = true then (p.toNat + 1) % 256 else p.toNat + 1) := by
  have := p.isLt
  unfold pointerHigh
  split
  · exact zeroPage_add_eq_ofNat p 1
  · rw [zeroPage_eq_ofNat]
    apply BitVec.eq_of_toNat_eq
    rw [BitVec.toNat_add, BitVec.toNat_ofNat, BitVec.toNat_ofNat]
    change (p.toNat % 65536 + 1) % 65536 = (p.toNat + 1) % 65536
    omega

/-- The high byte's address of JMP's pointer is on the page of the low byte's (R264). -/
theorem indirectHigh_eq_ofNat (w : Word) :
    indirectHigh w = BitVec.ofNat 16 (w.toNat / 256 * 256 + (w.toNat + 1) % 256) := by
  have := w.isLt
  apply BitVec.eq_of_toNat_eq
  rw [indirectHigh, wordOf_toNat, lowByte_toNat, highByte_toNat, BitVec.toNat_add, BitVec.toNat_ofNat]
  change 256 * (w.toNat / 256) + (w.toNat + 1) % 65536 % 256 = _
  omega

/-! ## Zero-page pointers -/

theorem pointerHigh_toNat_le (params : Params) (p : Byte) : (pointerHigh params p).toNat ≤ 256 := by
  have := p.isLt
  rw [pointerHigh_eq_ofNat, BitVec.toNat_ofNat]
  split <;> omega

/-- A zero-page pointer in the words of `peek`: two bytes of work RAM (R262, R263). -/
theorem zpPointer_eq_peek (p : Byte) (s : State) :
    zpPointer p s = (wordOf (peek s (zeroPage p)) (peek s (pointerHigh s.params p)), s) := by
  have hlow : (zeroPage p).toNat ≤ 0x1FFF := by
    have := p.isLt
    rw [zeroPage_eq_ofNat, BitVec.toNat_ofNat]
    omega
  have hhigh := pointerHigh_toNat_le s.params p
  simp only [zpPointer, peek, memRead_ram_eq s hlow, memRead_ram_eq s (hhigh.trans (by decide))]

/-! ## Operands -/

/-- A read of an address that is no port's, in the words of `peek`. -/
theorem memRead_eq_peek {a : Word} (s : State) (h : isPort a = false) : memRead a s = (peek s a, s) :=
  Prod.ext rfl (memRead_noPort s (isPort_eq_false_iff.mp h))

theorem peek_congr {a : Word} {s t : State} (h : isPort a = false) (hp : t.params = s.params) (hc : t.cart = s.cart)
    (hr : t.ram = s.ram) (hm : t.mapper = s.mapper) : peek t a = peek s a :=
  memRead_congr (isPort_eq_false_iff.mp h) hp hc hr hm

theorem operandOf_imm {i : Instr} {o : Byte} (s : State) (h : i.entry.operand = .imm o) :
    operandOf i s = (o, startOf i s) := by
  rw [operandOf, resolveOf, h]
  rfl

theorem operandOf_acc {i : Instr} (s : State) (h : i.entry.operand = .acc) :
    operandOf i s = (s.cpu.a, startOf i s) := by
  rw [operandOf, resolveOf, h]
  rfl

theorem operandOf_memory {i : Instr} (s : State) (himm : ∀ o, i.entry.operand ≠ .imm o)
    (hacc : i.entry.operand ≠ .acc) : operandOf i s = memRead (resolveOf i s).ea (resolveOf i s).st := by
  unfold operandOf operandValue
  split
  · next o h => exact absurd h (himm o)
  · next h => exact absurd h hacc
  · rfl

/-- Only the resolver of `(nnnn)` may change the prepared state. -/
theorem resolveOf_st {i : Instr} (s : State) (h : ∀ w, i.entry.operand ≠ .ind w) : (resolveOf i s).st = startOf i s :=
  resolve_st_eq h _

end Sys2Proof.Machine

namespace Sys2Proof

/-- Only JMP is indirect (R264). -/
theorem mnemonic_of_operand_ind {i : Instr} {w : Word} (h : i.entry.operand = .ind w) : i.entry.mnemonic = .jmp := by
  cases i with
  | jmpInd _ => rfl
  | _ => cases h

end Sys2Proof

namespace Sys2Proof.Proofs

open Sys2Proof.Machine

/-- Settles O14: the indexed modes as sums modulo 2^16, the pointers as pairs of reads. -/
theorem pointerAddresses : Obligations.PointerAddresses := by
  intro s o w high px base ea lo hi
  refine ⟨?absx, ?absy, ?indx, ?indy, ?ind, fun _ => mnemonic_of_operand_ind⟩
  case absx => simp only [resolve, pageCrossed_eq_decide, add_setWidth_eq_ofNat, BitVec.toNat_ofNat]
  case absy => simp only [resolve, pageCrossed_eq_decide, add_setWidth_eq_ofNat, BitVec.toNat_ofNat]
  case indx =>
    have hpx : (o + s.cpu.x).toNat = px := BitVec.toNat_add ..
    simp only [resolve, zpPointer_eq_peek, zeroPage_add_eq_ofNat, pointerHigh_eq_ofNat, hpx]
    rfl
  case indy =>
    simp only [resolve, zpPointer_eq_peek, pageCrossed_eq_decide, add_setWidth_eq_ofNat, zeroPage_eq_ofNat,
      pointerHigh_eq_ofNat]
    rfl
  case ind =>
    simp only [resolve, indirectHigh_eq_ofNat]
    rfl

/-- Settles O15: the operand by its mode; a read that reaches no port changes nothing. -/
theorem operandRead : Obligations.OperandRead := by
  intro i s
  refine ⟨fun _ => operandOf_imm s, operandOf_acc s, operandOf_memory s, fun himm hacc hind hport => ?_, rfl⟩
  rw [operandOf_memory s himm hacc, resolveOf_st s hind, memRead_eq_peek _ hport,
    peek_congr (s := s) (t := startOf i s) hport rfl rfl rfl rfl]

end Sys2Proof.Proofs
end

section
/-! PROOF. The meaning of each mnemonic, said once: its shape and its effect on the register file. Every instruction runs the
meaning of its mnemonic. -/

namespace Sys2Proof.Machine

/-- The shapes of meanings (Machine/Operands.lean), with what a mnemonic puts into its shape. -/
inductive Meaning where
  /-- one operand read; the register file from the operand -/
  | read (c : Byte → Cpu → Cpu)
  /-- one write of a register's value -/
  | store (reg : Cpu → Byte)
  /-- a read-modify-write with its result and its flags -/
  | modify (g : Byte → Bool → Byte) (h : Status → Byte → Status)
  /-- an effect on the register file alone -/
  | implied (c : Cpu → Cpu)
  | branch (cond : Status → Bool)
  | jump
  /-- `k` pushes under the check of R124 -/
  | push (k : Nat) (f : Resolved → State)
  /-- `k` pulls under the check of R124 -/
  | pull (k : Nat) (f : State → State)

/-- The register file after a load of `v` into `A`, `X`, `Y` (R300 to R302). -/
def Cpu.loadA (c : Cpu) (v : Byte) : Cpu := { c with a := v, p := setNZ c.p v }
def Cpu.loadX (c : Cpu) (v : Byte) : Cpu := { c with x := v, p := setNZ c.p v }
def Cpu.loadY (c : Cpu) (v : Byte) : Cpu := { c with y := v, p := setNZ c.p v }

/-- The meaning of each mnemonic (files 41 to 46 of the spec). -/
def meaningOf : Mnemonic → Meaning
  | .lda => .read fun v c => c.loadA v
  | .ldx => .read fun v c => c.loadX v
  | .ldy => .read fun v c => c.loadY v
  | .adc => .read fun v c => { c with a := adcResult c.a v c.p.c, p := adcFlags c.p c.a v }
  | .sbc => .read fun v c => { c with a := sbcResult c.a v c.p.c, p := sbcFlags c.p c.a v }
  | .and => .read fun v c => c.loadA (c.a &&& v)
  | .ora => .read fun v c => c.loadA (c.a ||| v)
  | .eor => .read fun v c => c.loadA (c.a ^^^ v)
  | .cmp => .read fun v c => { c with p := compareFlags c.p c.a v }
  | .cpx => .read fun v c => { c with p := compareFlags c.p c.x v }
  | .cpy => .read fun v c => { c with p := compareFlags c.p c.y v }
  | .bit => .read fun v c => { c with p := bitFlags c.p c.a v }
  | .sta => .store Cpu.a
  | .stx => .store Cpu.x
  | .sty => .store Cpu.y
  | .inc => .modify (fun v _ => v + 1) (fun p v => setNZ p (v + 1))
  | .dec => .modify (fun v _ => v - 1) (fun p v => setNZ p (v - 1))
  | .asl => .modify (fun v _ => aslResult v) aslFlags
  | .lsr => .modify (fun v _ => lsrResult v) lsrFlags
  | .rol => .modify rolResult rolFlags
  | .ror => .modify rorResult rorFlags
  | .tax => .implied fun c => c.loadX c.a
  | .tay => .implied fun c => c.loadY c.a
  | .txa => .implied fun c => c.loadA c.x
  | .tya => .implied fun c => c.loadA c.y
  | .tsx => .implied fun c => c.loadX c.s
  | .txs => .implied fun c => { c with s := c.x }
  | .inx => .implied fun c => c.loadX (c.x + 1)
  | .iny => .implied fun c => c.loadY (c.y + 1)
  | .dex => .implied fun c => c.loadX (c.x - 1)
  | .dey => .implied fun c => c.loadY (c.y - 1)
  | .clc => .implied fun c => { c with p := { c.p with c := false } }
  | .sec => .implied fun c => { c with p := { c.p with c := true } }
  | .cli => .implied fun c => { c with p := { c.p with i := false } }
  | .sei => .implied fun c => { c with p := { c.p with i := true } }
  | .cld => .implied fun c => { c with p := { c.p with d := false } }
  | .sed => .implied fun c => { c with p := { c.p with d := true } }
  | .clv => .implied fun c => { c with p := { c.p with v := false } }
  | .nop => .implied fun c => c
  | .bcc => .branch fun p => !p.c
  | .bcs => .branch fun p => p.c
  | .bne => .branch fun p => !p.z
  | .beq => .branch fun p => p.z
  | .bpl => .branch fun p => !p.n
  | .bmi => .branch fun p => p.n
  | .bvc => .branch fun p => !p.v
  | .bvs => .branch fun p => p.v
  | .jmp => .jump
  | .pha => .push 1 fun r => push8 r.st.cpu.a r.st
  | .php => .push 1 fun r => push8 (statusByteWith r.st.cpu.p true) r.st
  | .jsr => .push 2 callTarget
  | .brk => .push 3 softwareBreak
  | .pla => .pull 1 pullA
  | .plp => .pull 1 pullP
  | .rts => .pull 2 returnCaller
  | .rti => .pull 3 returnFromInterrupt

/-- The state after `i` with a given meaning. -/
def runMeaning (i : Instr) (s : State) : Meaning → State
  | .read c => runRead i (fun v t => t.withCpu (c v t.cpu)) s
  | .store reg => runStore i reg s
  | .modify g h => runModify i g h s
  | .implied c => runImplied i (fun t => t.withCpu (c t.cpu)) s
  | .branch cond => runBranch i cond s
  | .jump => runJump i s
  | .push k f => runPush i k f s
  | .pull k f => runPull i k f s

/-- Every instruction runs the meaning of its mnemonic. -/
theorem exec_eq_runMeaning (i : Instr) (s : State) :
    exec i s = .next (runMeaning i s (meaningOf i.entry.mnemonic)) := by
  cases i <;> rfl

theorem exec_of_mnemonic {i : Instr} {m : Mnemonic} (h : i.entry.mnemonic = m) (s : State) :
    exec i s = .next (runMeaning i s (meaningOf m)) := h ▸ exec_eq_runMeaning i s

/-- The state an instruction answers. -/
theorem eq_runMeaning_of_exec {i : Instr} {s t : State} (h : exec i s = .next t) :
    t = runMeaning i s (meaningOf i.entry.mnemonic) := by
  rw [exec_eq_runMeaning] at h
  injection h with h
  exact h.symm

end Sys2Proof.Machine

namespace Sys2Proof

/-! ## The mnemonic at an opcode -/

/-- The mnemonic the map R203 has at a byte; any operand gives the same. -/
def mnemonicAt (op : Byte) : Option Mnemonic :=
  match opcodeMap op with
  | .unwired => none
  | .f1 i => some i.entry.mnemonic
  | .f2 mk => some (mk 0).entry.mnemonic
  | .f3 mk => some (mk 0).entry.mnemonic

theorem mnemonicAt_opcode (i : Instr) : mnemonicAt i.opcode = some i.entry.mnemonic := by
  cases i <;> simp only [Instr.opcode, Instr.entry] <;> rfl

/-- The mnemonic of an instruction whose opcode stands in a list of one mnemonic's opcodes. -/
theorem mnemonic_of_opcode_mem {i : Instr} {ops : List Byte} {m : Mnemonic} (h : i.opcode ∈ ops)
    (hm : ∀ op ∈ ops, mnemonicAt op = some m) : i.entry.mnemonic = m := by
  have := hm _ h
  rw [mnemonicAt_opcode] at this
  exact Option.some.inj this

/-- The mode the map R203 has at a byte. -/
def modeAt (op : Byte) : Option Machine.Mode :=
  match opcodeMap op with
  | .unwired => none
  | .f1 i => some (Machine.modeOf i.entry.operand)
  | .f2 mk => some (Machine.modeOf (mk 0).entry.operand)
  | .f3 mk => some (Machine.modeOf (mk 0).entry.operand)

theorem modeAt_opcode (i : Instr) : modeAt i.opcode = some (Machine.modeOf i.entry.operand) := by
  cases i <;> simp only [Instr.opcode, Instr.entry] <;> rfl

end Sys2Proof
end

section
/-! PROOF. Flags and results as arithmetic (R11, R340 to R360, R380 to R383). -/

namespace Sys2Proof.Machine

/-! ## N and Z -/

theorem getBit_seven (v : Byte) : getBit v 7 = decide (128 ≤ v.toNat) := by
  have := v.isLt
  rw [getBit_eq_div_mod]
  congr 1
  apply propext
  omega

theorem getBit_zero (v : Byte) : getBit v 0 = decide (v.toNat % 2 = 1) := by
  rw [getBit_eq_div_mod, pow_zero, Nat.div_one]

theorem setNZ_eq_nz (p : Status) (v : Byte) : setNZ p v = p.nz v := by
  simp only [setNZ, Status.nz, getBit_seven, ← BitVec.toNat_inj]
  rfl

/-! ## Sums and differences -/

/-- Bit 7 of a byte, tested by a mask. -/
theorem and_0x80_ne_zero (v : Byte) : v &&& 0x80 ≠ 0 ↔ v.msb = true := by
  revert v
  decide

theorem msb_eq_decide_le (v : Byte) : v.msb = decide (128 ≤ v.toNat) := BitVec.msb_eq_decide v

/-- The sign bit, the range and the signed value of a byte. -/
theorem msb_cases (v : Byte) : (v.msb = true ∧ 128 ≤ v.toNat ∧ v.toInt = (v.toNat : Int) - 256) ∨
    (v.msb = false ∧ v.toNat < 128 ∧ v.toInt = v.toNat) := by
  have hint := BitVec.toInt_eq_msb_cond v
  have hmsb := msb_eq_decide_le v
  cases h : v.msb with
  | true =>
    rw [h] at hint hmsb
    exact .inl ⟨rfl, of_decide_eq_true hmsb.symm, hint⟩
  | false =>
    rw [h] at hint hmsb
    exact .inr ⟨rfl, by simpa using hmsb.symm, hint⟩

theorem bitNat_le_one (b : Bool) : bitNat b ≤ 1 := by cases b <;> decide

/-- V of ADC is set exactly when the sum of the signed values leaves a byte's range (R357). -/
theorem adc_overflow (a m : Byte) (c : Bool) :
    decide ((~~~(a ^^^ m)) &&& (a ^^^ adcResult a m c) &&& 0x80 ≠ 0) =
      decide (a.toInt + m.toInt + bitNat c < -128 ∨ 127 < a.toInt + m.toInt + bitNat c) := by
  have ha := a.isLt
  have hm := m.isLt
  have hc := bitNat_le_one c
  have hr : (adcResult a m c).toNat = (a.toNat + m.toNat + bitNat c) % 256 := BitVec.toNat_ofNat ..
  apply decide_eq_decide.mpr
  rw [and_0x80_ne_zero, BitVec.msb_and, BitVec.msb_not, BitVec.msb_xor, BitVec.msb_xor]
  obtain ⟨ea, la, ia⟩ | ⟨ea, la, ia⟩ := msb_cases a <;>
  obtain ⟨em, lm, im⟩ | ⟨em, lm, im⟩ := msb_cases m <;>
  obtain ⟨er, lr, -⟩ | ⟨er, lr, -⟩ := msb_cases (adcResult a m c) <;>
  · rw [hr] at lr
    rw [ea, em, er, ia, im]
    simp
    omega

/-- The flags of ADC as arithmetic (R340, R356, R357). -/
theorem adcFlags_eq (p : Status) (a m : Byte) : adcFlags p a m =
    { p.nz (adcResult a m p.c) with
      c := decide (256 ≤ a.toNat + m.toNat + bitNat p.c)
      v := decide (a.toInt + m.toInt + bitNat p.c < -128 ∨ 127 < a.toInt + m.toInt + bitNat p.c) } := by
  rw [adcFlags, setNZ_eq_nz, adc_overflow]
  rfl

/-- SBC's difference, of integers. -/
def borrowDiff (a m : Byte) (c : Bool) : Int := (a.toNat : Int) - m.toNat - bitNat (!c)

theorem sbcDiff_toNat (a m : Byte) (c : Bool) : (sbcDiff a m c).toNat = (borrowDiff a m c % 65536).toNat := by
  have ha := a.isLt
  have hm := m.isLt
  have hb := bitNat_le_one (!c)
  simp only [sbcDiff, BitVec.toNat_sub, BitVec.toNat_setWidth, BitVec.toNat_ofNat, borrowDiff]
  omega

theorem sbcResult_eq (a m : Byte) (c : Bool) : sbcResult a m c = BitVec.ofInt 8 (borrowDiff a m c) := by
  apply BitVec.eq_of_toNat_eq
  rw [sbcResult, BitVec.toNat_setWidth, sbcDiff_toNat, BitVec.toNat_ofInt]
  omega

/-- SBC is ADC of the complement (R358): the result. -/
theorem sbcResult_eq_adcResult (a m : Byte) (c : Bool) : sbcResult a m c = adcResult a (~~~m) c := by
  have hm := m.isLt
  have hn : (~~~m).toNat = 255 - m.toNat := BitVec.toNat_not
  have hb : bitNat (!c) = 1 - bitNat c := by cases c <;> rfl
  have hc := bitNat_le_one c
  apply BitVec.eq_of_toNat_eq
  rw [sbcResult_eq, BitVec.toNat_ofInt, adcResult, BitVec.toNat_ofNat, adcSum, hn, borrowDiff, hb]
  omega

/-- SBC is ADC of the complement (R358): the flags. -/
theorem sbcFlags_eq_adcFlags (p : Status) (a m : Byte) : sbcFlags p a m = adcFlags p a (~~~m) := by
  have hm := m.isLt
  have hn : (~~~m).toNat = 255 - m.toNat := BitVec.toNat_not
  have hb : bitNat (!p.c) = 1 - bitNat p.c := by cases p.c <;> rfl
  have hc := bitNat_le_one p.c
  have ha := a.isLt
  have hcarry : (sbcDiff a m p.c).toNat ≤ 255 ↔ adcSum a (~~~m) p.c > 255 := by
    rw [sbcDiff_toNat, adcSum, hn, borrowDiff, hb]
    omega
  have hmask : ~~~(a ^^^ ~~~m) = a ^^^ m := by
    apply BitVec.eq_of_getLsbD_eq
    intro k hk
    simp [hk]
  rw [sbcFlags, adcFlags, ← sbcResult_eq_adcResult, hmask, decide_eq_decide.mpr hcarry]

theorem toInt_not (m : Byte) : (~~~m).toInt = -1 - m.toInt := by
  have := m.isLt
  have hn : (~~~m).toNat = 255 - m.toNat := BitVec.toNat_not
  obtain ⟨-, lm, im⟩ | ⟨-, lm, im⟩ := msb_cases m <;>
  obtain ⟨-, ln, iN⟩ | ⟨-, ln, iN⟩ := msb_cases (~~~m) <;> omega

/-- The flags of SBC as arithmetic (R341, R356, R357). -/
theorem sbcFlags_eq (p : Status) (a m : Byte) : sbcFlags p a m =
    { p.nz (BitVec.ofInt 8 (borrowDiff a m p.c)) with
      c := decide (0 ≤ borrowDiff a m p.c)
      v := decide (a.toInt - m.toInt - bitNat (!p.c) < -128 ∨ 127 < a.toInt - m.toInt - bitNat (!p.c)) } := by
  have hm := m.isLt
  have hn : (~~~m).toNat = 255 - m.toNat := BitVec.toNat_not
  have hb : bitNat (!p.c) = 1 - bitNat p.c := by cases p.c <;> rfl
  have hc := bitNat_le_one p.c
  have hcarry : 256 ≤ a.toNat + (~~~m).toNat + bitNat p.c ↔ 0 ≤ borrowDiff a m p.c := by
    rw [hn, borrowDiff, hb]
    omega
  have hsigned : a.toInt + (~~~m).toInt + bitNat p.c = a.toInt - m.toInt - bitNat (!p.c) := by
    rw [toInt_not, hb]
    omega
  rw [sbcFlags_eq_adcFlags, adcFlags_eq, hsigned, decide_eq_decide.mpr hcarry, ← sbcResult_eq_adcResult, sbcResult_eq]

/-! ## Compares, increments, decrements -/

theorem sub_eq_ofInt (r m : Byte) : r - m = BitVec.ofInt 8 ((r.toNat : Int) - m.toNat) := by
  have := r.isLt
  have := m.isLt
  apply BitVec.eq_of_toNat_eq
  rw [BitVec.toNat_sub, BitVec.toNat_ofInt]
  omega

theorem add_one_eq_ofNat (v : Byte) : v + 1 = BitVec.ofNat 8 (v.toNat + 1) := by
  apply BitVec.eq_of_toNat_eq
  rw [BitVec.toNat_add, BitVec.toNat_ofNat]
  rfl

theorem sub_one_eq_ofNat_add (v : Byte) : v - 1 = BitVec.ofNat 8 (v.toNat + 255) := by
  apply BitVec.eq_of_toNat_eq
  rw [BitVec.toNat_sub, BitVec.toNat_ofNat, Nat.add_comm v.toNat]
  rfl

/-- The flags of a compare as arithmetic (R345 to R347). -/
theorem compareFlags_eq (p : Status) (r m : Byte) : compareFlags p r m =
    { p.nz (BitVec.ofInt 8 ((r.toNat : Int) - m.toNat)) with c := decide (m.toNat ≤ r.toNat) } := by
  rw [compareFlags, setNZ_eq_nz, sub_eq_ofInt]
  rfl

/-- The flags of BIT as arithmetic (R348). -/
theorem bitFlags_eq (p : Status) (a m : Byte) : bitFlags p a m =
    { p with z := decide (a &&& m = 0), n := decide (m.toNat / 128 = 1), v := decide (m.toNat / 64 % 2 = 1) } := by
  have := m.isLt
  have hn : decide (m.toNat / 2 ^ 7 % 2 = 1) = decide (m.toNat / 128 = 1) := decide_eq_decide.mpr (by omega)
  rw [bitFlags, getBit_eq_div_mod, getBit_eq_div_mod, hn]
  rfl

/-! ## Shifts -/

theorem aslResult_eq (v : Byte) : aslResult v = BitVec.ofNat 8 (2 * v.toNat) := by
  revert v
  decide

theorem lsrResult_eq (v : Byte) : lsrResult v = BitVec.ofNat 8 (v.toNat / 2) := by
  revert v
  decide

theorem rolResult_eq (v : Byte) (c : Bool) : rolResult v c = BitVec.ofNat 8 (2 * v.toNat + bitNat c) := by
  revert v c
  decide

theorem rorResult_eq (v : Byte) (c : Bool) : rorResult v c = BitVec.ofNat 8 (v.toNat / 2 + 128 * bitNat c) := by
  revert v c
  decide

theorem aslFlags_eq (p : Status) (v : Byte) :
    aslFlags p v = { p.nz (BitVec.ofNat 8 (2 * v.toNat)) with c := decide (128 ≤ v.toNat) } := by
  rw [aslFlags, setNZ_eq_nz, getBit_seven, aslResult_eq]
  rfl

theorem lsrFlags_eq (p : Status) (v : Byte) :
    lsrFlags p v = { p.nz (BitVec.ofNat 8 (v.toNat / 2)) with c := decide (v.toNat % 2 = 1) } := by
  rw [lsrFlags, setNZ_eq_nz, getBit_zero, lsrResult_eq]
  rfl

theorem rolFlags_eq (p : Status) (v : Byte) :
    rolFlags p v = { p.nz (BitVec.ofNat 8 (2 * v.toNat + bitNat p.c)) with c := decide (128 ≤ v.toNat) } := by
  rw [rolFlags, setNZ_eq_nz, getBit_seven, rolResult_eq]
  rfl

theorem rorFlags_eq (p : Status) (v : Byte) :
    rorFlags p v = { p.nz (BitVec.ofNat 8 (v.toNat / 2 + 128 * bitNat p.c)) with c := decide (v.toNat % 2 = 1) } := by
  rw [rorFlags, setNZ_eq_nz, getBit_zero, rorResult_eq]
  rfl

end Sys2Proof.Machine
end

section
/-! PROOF. The results of loads, stores, arithmetic, logic, compares, shifts, register and flag instructions and branches
(files 41 to 46 of the spec), each shape of meaning written out once. -/

namespace Sys2Proof.Machine

/-! ## The shapes, written out -/

theorem cycleCount_eq_baseCycles (i : Instr) (s : State) :
    cycleCount i.entry (resolveOf i s).crossed = baseCycles i s := by
  unfold cycleCount baseCycles
  cases i.entry.penalty <;> cases (resolveOf i s).crossed <;> rfl

theorem cycleCount_false (e : Entry) : cycleCount e false = e.cycles := by
  unfold cycleCount
  cases e.penalty <;> rfl

/-- The register file `c` moved past the instruction at the `PC` of `s`. -/
def Cpu.movedPast (c : Cpu) (i : Instr) (s : State) : Cpu :=
  { c with lastPC := s.cpu.pc, pc := s.cpu.pc + BitVec.ofNat 16 i.entry.bytes }

section
variable {i : Instr} {m : Mnemonic} (hm : i.entry.mnemonic = m) (s : State)
include hm

theorem exec_read {c : Byte → Cpu → Cpu} (hc : meaningOf m = .read c) {c' : Cpu}
    (h : c (operandOf i s).1 (s.cpu.movedPast i s) = c'.movedPast i s) :
    exec i s = .next (finish i s (operandOf i s).2 c') := by
  rw [exec_of_mnemonic hm, hc, runMeaning, runRead, operandOf_cpu, cycleCount_eq_baseCycles]
  exact congrArg (fun k => Host.Outcome.next (addCycles (baseCycles i s) ((operandOf i s).2.withCpu k))) h

theorem exec_store {reg : Cpu → Byte} (hc : meaningOf m = .store reg) (hind : ∀ w, i.entry.operand ≠ .ind w)
    (hreg : reg (s.cpu.movedPast i s) = reg s.cpu) :
    exec i s = .next (finishStore i s (startOf i s) (resolveOf i s).ea (reg s.cpu) s.cpu) := by
  rw [exec_of_mnemonic hm, hc, runMeaning, runStore, cycleCount_eq_baseCycles, resolveOf_st s hind, startOf_cpu]
  change Host.Outcome.next (addCycles _ (memWrite _ (reg (s.cpu.movedPast i s)) _)) = _
  rw [hreg]
  congr 1
  unfold finishStore finish
  have hcpu := memWrite_cpu (resolveOf i s).ea (reg s.cpu) (startOf i s)
  rw [startOf_cpu] at hcpu
  rw [← hcpu]
  rfl

theorem exec_modify {g : Byte → Bool → Byte} {h : Status → Byte → Status} (hc : meaningOf m = .modify g h)
    (hacc : i.entry.operand ≠ .acc) :
    exec i s = .next (finishStore i s (operandOf i s).2 (resolveOf i s).ea (g (operandOf i s).1 s.cpu.p.c)
      { s.cpu with p := h s.cpu.p (operandOf i s).1 }) := by
  have hback : ∀ v t, writeBack i.entry.operand (resolveOf i s).ea v t = memWrite (resolveOf i s).ea v t := by
    intro v t
    unfold writeBack
    split
    · next h => exact absurd h hacc
    · rfl
  rw [exec_of_mnemonic hm, hc, runMeaning, runModify, cycleCount_eq_baseCycles]
  simp only [hback, setP, memWrite_cpu, operandOf_cpu]
  rfl

theorem exec_modify_acc {g : Byte → Bool → Byte} {h : Status → Byte → Status} (hc : meaningOf m = .modify g h)
    (hacc : i.entry.operand = .acc) :
    exec i s = .next (finish i s (startOf i s) { s.cpu with a := g s.cpu.a s.cpu.p.c, p := h s.cpu.p s.cpu.a }) := by
  rw [exec_of_mnemonic hm, hc, runMeaning, runModify, cycleCount_eq_baseCycles, operandOf_acc s hacc, hacc]
  rfl

theorem exec_implied {c : Cpu → Cpu} (hc : meaningOf m = .implied c) :
    exec i s = .next { s with cycles := s.cycles + i.entry.cycles, cpu := c (s.cpu.past i.entry.bytes) } := by
  rw [exec_of_mnemonic hm, hc, runMeaning, runImplied, cycleCount_false]
  rfl

end

/-! ## Reads -/

theorem branchTarget_eq (s : State) (o : Byte) : s.cpu.pc + 2 + o.signExtend 16 = branchTarget s o := by
  rw [branchTarget, BitVec.ofInt_add, BitVec.ofInt_add, BitVec.ofInt_natCast, BitVec.ofNat_toNat, BitVec.setWidth_eq,
    BitVec.signExtend]
  rfl

/-- The cycles of a branch, one condition at a time (R267). -/
theorem branchCycles_eq (params : Params) (e : Entry) (taken crossed : Bool) : branchCycles params e taken crossed =
    e.cycles + (if taken = true then 1 else 0) +
      (if taken = true ∧ params.branchPagePenalty = true ∧ crossed = true then 1 else 0) := by
  unfold branchCycles
  cases taken <;> cases crossed <;> cases params.branchPagePenalty <;> rfl

/-- A branch is a two-byte, two-cycle instruction (R403, R267). -/
theorem exec_branch {i : Instr} {m : Mnemonic} (hm : i.entry.mnemonic = m) (s : State) {o : Byte} {cond : Status → Bool}
    (hc : meaningOf m = .branch cond) (hop : i.entry.operand = .rel o) (hbytes : i.entry.bytes = 2)
    (hcycles : i.entry.cycles = 2) : exec i s = .next (afterBranch s o (cond s.cpu.p)) := by
  have hres : resolveOf i s = ⟨branchTarget s o, pageCrossed (s.cpu.pc + 2) (branchTarget s o), startOf i s⟩ := by
    rw [resolveOf, hop, resolve, startOf_cpu, hbytes, ← branchTarget_eq]
    rfl
  rw [exec_of_mnemonic hm, hc, runMeaning, runBranch, hres]
  simp only [startOf_cpu, startOf_params, branchCycles_eq, hcycles, pageCrossed_eq_decide, decide_eq_true_eq]
  unfold afterBranch startOf advancePC addCycles
  rw [hbytes]
  simp only [Nat.add_assoc]
  by_cases h : cond s.cpu.p = true
  · simp only [h, if_true, true_and]
    rfl
  · simp only [h]
    rfl

end Sys2Proof.Machine

namespace Sys2Proof

/-- An instruction whose opcode is not JMP's has no pointer word. -/
theorem operand_ne_ind {i : Instr} {m : Mnemonic} (hm : i.entry.mnemonic = m) (hj : m ≠ .jmp) :
    ∀ w, i.entry.operand ≠ .ind w := fun _ h => hj (hm.symm.trans (mnemonic_of_operand_ind h))

/-- The mode of an instruction from its opcode. -/
theorem modeOf_operand_eq {i : Instr} {op : Byte} {md : Machine.Mode} (h : i.opcode = op) (hm : modeAt op = some md) :
    Machine.modeOf i.entry.operand = md := by
  rw [← h, modeAt_opcode] at hm
  exact Option.some.inj hm

theorem operand_eq_acc_iff {m : Operand} : m = .acc ↔ Machine.modeOf m = .acc := by
  cases m <;> simp [Machine.modeOf]

/-- An instruction whose opcode stands in a list of memory forms is no accumulator form. -/
theorem operand_ne_acc {i : Instr} {ops : List Byte} (h : i.opcode ∈ ops)
    (hm : ∀ op ∈ ops, modeAt op ≠ some .acc) : i.entry.operand ≠ .acc := fun hacc =>
  hm _ h (by rw [modeAt_opcode, operand_eq_acc_iff.mp hacc])

end Sys2Proof

namespace Sys2Proof.Proofs

open Sys2Proof.Machine

/-- Settles O16. -/
theorem loadResults : Obligations.LoadResults := by
  refine fun i s => ⟨fun h => ?a, fun h => ?x, fun h => ?y⟩
  case a => exact exec_read (mnemonic_of_opcode_mem (m := .lda) h (by decide)) s rfl (by rw [Cpu.loadA, setNZ_eq_nz]; rfl)
  case x => exact exec_read (mnemonic_of_opcode_mem (m := .ldx) h (by decide)) s rfl (by rw [Cpu.loadX, setNZ_eq_nz]; rfl)
  case y => exact exec_read (mnemonic_of_opcode_mem (m := .ldy) h (by decide)) s rfl (by rw [Cpu.loadY, setNZ_eq_nz]; rfl)

/-- Settles O17. -/
theorem storeResults : Obligations.StoreResults := by
  refine fun i s => ⟨fun h => ?a, fun h => ?x, fun h => ?y⟩
  case a =>
    have hm := mnemonic_of_opcode_mem (m := .sta) h (by decide)
    exact exec_store hm s rfl (operand_ne_ind hm (by decide)) rfl
  case x =>
    have hm := mnemonic_of_opcode_mem (m := .stx) h (by decide)
    exact exec_store hm s rfl (operand_ne_ind hm (by decide)) rfl
  case y =>
    have hm := mnemonic_of_opcode_mem (m := .sty) h (by decide)
    exact exec_store hm s rfl (operand_ne_ind hm (by decide)) rfl

/-- Settles O18. -/
theorem registerInstructionResults : Obligations.RegisterInstructionResults := by
  intro s done c inc dec
  have hinc : ∀ v : Byte, v + 1 = inc v := add_one_eq_ofNat
  have hdec : ∀ v : Byte, v - 1 = dec v := sub_one_eq_ofNat_add
  refine ⟨?tax, ?tay, ?txa, ?tya, ?tsx, exec_implied (i := .txs) rfl s rfl, ?inx, ?iny, ?dex, ?dey⟩
  case tax => rw [exec_implied (i := .tax) rfl s rfl, Cpu.loadX, setNZ_eq_nz]; rfl
  case tay => rw [exec_implied (i := .tay) rfl s rfl, Cpu.loadY, setNZ_eq_nz]; rfl
  case txa => rw [exec_implied (i := .txa) rfl s rfl, Cpu.loadA, setNZ_eq_nz]; rfl
  case tya => rw [exec_implied (i := .tya) rfl s rfl, Cpu.loadA, setNZ_eq_nz]; rfl
  case tsx => rw [exec_implied (i := .tsx) rfl s rfl, Cpu.loadX, setNZ_eq_nz]; rfl
  case inx => rw [exec_implied (i := .inx) rfl s rfl, Cpu.loadX, setNZ_eq_nz, hinc]; rfl
  case iny => rw [exec_implied (i := .iny) rfl s rfl, Cpu.loadY, setNZ_eq_nz, hinc]; rfl
  case dex => rw [exec_implied (i := .dex) rfl s rfl, Cpu.loadX, setNZ_eq_nz, hdec]; rfl
  case dey => rw [exec_implied (i := .dey) rfl s rfl, Cpu.loadY, setNZ_eq_nz, hdec]; rfl

/-- Settles O28. -/
theorem flagInstructionResults : Obligations.FlagInstructionResults := fun s =>
  ⟨exec_implied (i := .clc) rfl s rfl, exec_implied (i := .sec) rfl s rfl, exec_implied (i := .cli) rfl s rfl,
    exec_implied (i := .sei) rfl s rfl, exec_implied (i := .cld) rfl s rfl, exec_implied (i := .sed) rfl s rfl,
    exec_implied (i := .clv) rfl s rfl, exec_implied (i := .nop) rfl s rfl⟩

/-- Settles O19. -/
theorem adcResult : Obligations.AdcResult := by
  intro i s h m sum signed
  exact exec_read (mnemonic_of_opcode_mem (m := .adc) h (by decide)) s rfl (by rw [adcFlags_eq]; rfl)

/-- Settles O20. -/
theorem sbcResult : Obligations.SbcResult := by
  intro i s h m diff signed
  exact exec_read (mnemonic_of_opcode_mem (m := .sbc) h (by decide)) s rfl (by rw [sbcFlags_eq, sbcResult_eq]; rfl)

/-- Settles O22: a byte is determined by its eight bits. -/
theorem logicResults : Obligations.LogicResults := by
  refine fun i s r => ⟨fun h hr => ?and, fun h hr => ?ora, fun h hr => ?eor⟩
  case and =>
    have he : r = s.cpu.a &&& (operandOf i s).1 := BitVec.eq_of_getLsbD_eq fun k hk => by rw [hr k hk, BitVec.getLsbD_and]
    subst he
    exact exec_read (mnemonic_of_opcode_mem (m := .and) h (by decide)) s rfl (by rw [Cpu.loadA, setNZ_eq_nz]; rfl)
  case ora =>
    have he : r = s.cpu.a ||| (operandOf i s).1 := BitVec.eq_of_getLsbD_eq fun k hk => by rw [hr k hk, BitVec.getLsbD_or]
    subst he
    exact exec_read (mnemonic_of_opcode_mem (m := .ora) h (by decide)) s rfl (by rw [Cpu.loadA, setNZ_eq_nz]; rfl)
  case eor =>
    have he : r = s.cpu.a ^^^ (operandOf i s).1 := BitVec.eq_of_getLsbD_eq fun k hk => by rw [hr k hk, BitVec.getLsbD_xor]
    subst he
    exact exec_read (mnemonic_of_opcode_mem (m := .eor) h (by decide)) s rfl (by rw [Cpu.loadA, setNZ_eq_nz]; rfl)

/-- Settles O23. -/
theorem compareResults : Obligations.CompareResults := by
  intro i s m flags bit
  refine ⟨fun h => ?cmp, fun h => ?cpx, fun h => ?cpy, fun h => ?bit⟩
  case cmp => exact exec_read (mnemonic_of_opcode_mem (m := .cmp) h (by decide)) s rfl (by rw [compareFlags_eq]; rfl)
  case cpx => exact exec_read (mnemonic_of_opcode_mem (m := .cpx) h (by decide)) s rfl (by rw [compareFlags_eq]; rfl)
  case cpy => exact exec_read (mnemonic_of_opcode_mem (m := .cpy) h (by decide)) s rfl (by rw [compareFlags_eq]; rfl)
  case bit => exact exec_read (mnemonic_of_opcode_mem (m := .bit) h (by decide)) s rfl (by rw [bitFlags_eq]; rfl)

/-- Settles O24. -/
theorem incDecResults : Obligations.IncDecResults := by
  intro i s m
  refine ⟨fun h => ?inc, fun h => ?dec⟩
  case inc =>
    rw [← add_one_eq_ofNat, ← setNZ_eq_nz]
    exact exec_modify (mnemonic_of_opcode_mem (m := .inc) h (by decide)) s rfl (operand_ne_acc h (by decide))
  case dec =>
    rw [← sub_one_eq_ofNat_add, ← setNZ_eq_nz]
    exact exec_modify (mnemonic_of_opcode_mem (m := .dec) h (by decide)) s rfl (operand_ne_acc h (by decide))

/-- Settles O25. -/
theorem shiftResults : Obligations.ShiftResults := by
  intro i s m a cin flags mem acc
  have hacc : ∀ op : Byte, i.opcode = op → modeAt op = some .acc → i.entry.operand = .acc := fun op h hm =>
    operand_eq_acc_iff.mpr (modeOf_operand_eq h hm)
  have hone : ∀ op : Byte, i.opcode = op → i.opcode ∈ [op] := fun op h => List.mem_singleton.mpr h
  refine ⟨fun h => ?asl, fun h => ?lsr, fun h => ?rol, fun h => ?ror, fun h => ?aslA, fun h => ?lsrA, fun h => ?rolA,
    fun h => ?rorA⟩
  case asl =>
    rw [exec_modify (mnemonic_of_opcode_mem (m := .asl) h (by decide)) s rfl (operand_ne_acc h (by decide)),
      aslFlags_eq, aslResult_eq]
  case lsr =>
    rw [exec_modify (mnemonic_of_opcode_mem (m := .lsr) h (by decide)) s rfl (operand_ne_acc h (by decide)),
      lsrFlags_eq, lsrResult_eq]
  case rol =>
    rw [exec_modify (mnemonic_of_opcode_mem (m := .rol) h (by decide)) s rfl (operand_ne_acc h (by decide)),
      rolFlags_eq, rolResult_eq]
  case ror =>
    rw [exec_modify (mnemonic_of_opcode_mem (m := .ror) h (by decide)) s rfl (operand_ne_acc h (by decide)),
      rorFlags_eq, rorResult_eq]
  case aslA =>
    rw [exec_modify_acc (mnemonic_of_opcode_mem (m := .asl) (hone _ h) (by decide)) s rfl (hacc _ h rfl),
      aslFlags_eq, aslResult_eq]
  case lsrA =>
    rw [exec_modify_acc (mnemonic_of_opcode_mem (m := .lsr) (hone _ h) (by decide)) s rfl (hacc _ h rfl),
      lsrFlags_eq, lsrResult_eq]
  case rolA =>
    rw [exec_modify_acc (mnemonic_of_opcode_mem (m := .rol) (hone _ h) (by decide)) s rfl (hacc _ h rfl),
      rolFlags_eq, rolResult_eq]
  case rorA =>
    rw [exec_modify_acc (mnemonic_of_opcode_mem (m := .ror) (hone _ h) (by decide)) s rfl (hacc _ h rfl),
      rorFlags_eq, rorResult_eq]

/-- Settles O26. -/
theorem branchResults : Obligations.BranchResults := fun s o =>
  have branch {i : Instr} {cond : Status → Bool} (hc : meaningOf i.entry.mnemonic = .branch cond)
      (hop : i.entry.operand = .rel o) (hbytes : i.entry.bytes = 2) (hcycles : i.entry.cycles = 2) :
      exec i s = .next (afterBranch s o (cond s.cpu.p)) := exec_branch rfl s hc hop hbytes hcycles
  ⟨branch (i := .bcc o) rfl rfl rfl rfl, branch (i := .bcs o) rfl rfl rfl rfl, branch (i := .bne o) rfl rfl rfl rfl,
    branch (i := .beq o) rfl rfl rfl rfl, branch (i := .bpl o) rfl rfl rfl rfl, branch (i := .bmi o) rfl rfl rfl rfl,
    branch (i := .bvc o) rfl rfl rfl rfl, branch (i := .bvs o) rfl rfl rfl rfl⟩

end Sys2Proof.Proofs
end

section
/-! PROOF. The decimal flag (R359): nothing an instruction reads depends on it. -/

namespace Sys2Proof.Machine

/-! ## Reads do not look at the registers -/

/-- Below palette space the latch is returned and refilled (R628). -/
theorem readData_below {s : State} (h : s.ppu.v.toNat % 0x4000 < 0x3F00) : readData s =
    (s.ppu.buffer, s.withPpu (bumpV { s.ppu with buffer := ppuRead s (s.ppu.v.toNat % 0x4000) })) := if_pos h

/-- In palette space the byte itself is returned (R628). -/
theorem readData_palette {s : State} (h : ¬ s.ppu.v.toNat % 0x4000 < 0x3F00) : readData s =
    (ppuRead s (s.ppu.v.toNat % 0x4000), s.withPpu (bumpV s.ppu)) := if_neg h

theorem readData_withCpu (s : State) (c : Cpu) :
    readData (s.withCpu c) = ((readData s).1, (readData s).2.withCpu c) := by
  by_cases h : s.ppu.v.toNat % 0x4000 < 0x3F00
  · rw [readData_below h, readData_below (s := s.withCpu c) h]
    rfl
  · rw [readData_palette h, readData_palette (s := s.withCpu c) h]
    rfl

theorem portRead_withCpu (s : State) (p : Nat) (c : Cpu) :
    portRead (s.withCpu c) p = ((portRead s p).1, (portRead s p).2.withCpu c) := by
  unfold portRead
  by_cases h1 : p = 0x2002; · rw [if_pos h1, if_pos h1]; rfl
  rw [if_neg h1, if_neg h1]
  by_cases h2 : p = 0x2004; · rw [if_pos h2, if_pos h2]; rfl
  rw [if_neg h2, if_neg h2]
  by_cases h3 : p = 0x2007; · rw [if_pos h3, if_pos h3, readData_withCpu]
  rw [if_neg h3, if_neg h3]
  by_cases h4 : p = 0x4015; · rw [if_pos h4, if_pos h4]; rfl
  rw [if_neg h4, if_neg h4]
  by_cases h5 : p = 0x4016; · rw [if_pos h5, if_pos h5]; rfl
  rw [if_neg h5, if_neg h5]

/-- A read does not depend on the register file. -/
theorem memRead_withCpu (a : Word) (s : State) (c : Cpu) :
    memRead a (s.withCpu c) = ((memRead a s).1, (memRead a s).2.withCpu c) := by
  unfold memRead
  cases target a with
  | ram off => rfl
  | port p => exact portRead_withCpu s p c
  | cartLow m => rfl
  | rom m => rfl

/-! ## The state with another D -/

/-- The state with the decimal flag at `d`. -/
def withD (d : Bool) (s : State) : State := s.withCpu { s.cpu with p := { s.cpu.p with d := d } }

variable (d : Bool) (s : State)

theorem memRead_withD (a : Word) : memRead a (withD d s) = ((memRead a s).1, withD d (memRead a s).2) := by
  rw [withD, memRead_withCpu, withD, memRead_cpu]

theorem resolve_withD (m : Operand) :
    resolve m (withD d s) = ⟨(resolve m s).ea, (resolve m s).crossed, withD d (resolve m s).st⟩ := by
  cases m with
  | indx o => simp only [resolve, zpPointer, memRead_withD]; rfl
  | indy o => simp only [resolve, zpPointer, memRead_withD]; rfl
  | ind o => simp only [resolve, memRead_withD]
  | _ => rfl

theorem resolveOf_withD (i : Instr) :
    resolveOf i (withD d s) = ⟨(resolveOf i s).ea, (resolveOf i s).crossed, withD d (resolveOf i s).st⟩ :=
  resolve_withD d (startOf i s) i.entry.operand

theorem operandOf_withD (i : Instr) : operandOf i (withD d s) = ((operandOf i s).1, withD d (operandOf i s).2) := by
  unfold operandOf operandValue
  rw [resolveOf_withD]
  split
  · rfl
  · rfl
  · exact memRead_withD d _ _

/-- An instruction that reads its operand and does not look at D changes as before, whatever D is. -/
theorem exec_read_withD {i : Instr} {m : Mnemonic} (hm : i.entry.mnemonic = m) {c : Byte → Cpu → Cpu}
    (hc : meaningOf m = .read c)
    (hd : ∀ v k, c v { k with p := { k.p with d := d } } = { c v k with p := { (c v k).p with d := d } }) {t : State}
    (ht : exec i s = .next t) : exec i (withD d s) = .next (withD d t) := by
  rw [exec_of_mnemonic hm, hc] at ht ⊢
  injection ht with ht
  subst ht
  have heffect : ∀ v t, (withD d t).withCpu (c v (withD d t).cpu) = withD d (t.withCpu (c v t.cpu)) := fun v t =>
    congrArg t.withCpu (hd v t.cpu)
  rw [runMeaning, runMeaning, runRead, runRead, resolveOf_withD, operandOf_withD]
  simp only [heffect]
  rfl

end Sys2Proof.Machine

namespace Sys2Proof.Proofs

open Sys2Proof.Machine

/-- Settles O21: the difference is the sum with the complement, and neither sum looks at D. -/
theorem adcSbcLaws : Obligations.AdcSbcLaws := by
  refine ⟨fun m s => ?complement, fun i s t d h ht => ?decimal⟩
  case complement =>
    rw [exec_eq_runMeaning, exec_eq_runMeaning]
    simp only [Instr.entry, meaningOf, runMeaning, runRead, operandOf_imm (i := .sbcImm m) s rfl,
      operandOf_imm (i := .adcImm (~~~m)) s rfl, sbcResult_eq_adcResult, sbcFlags_eq_adcFlags]
    rfl
  case decimal =>
    rcases h with h | h
    · exact exec_read_withD d s h rfl (fun _ _ => rfl) ht
    · exact exec_read_withD d s h rfl (fun _ _ => rfl) ht

end Sys2Proof.Proofs
end

section
/-! PROOF. The stack instructions, JMP and NMI entry (R120 to R125, R330 to R333, R400 to R402, R440, R441, R520). -/

namespace Sys2Proof.Machine

variable (s : State)

/-! ## The checks -/

theorem pushFails_of_ok {s : State} {k : Nat} (h : pushOk s k) : pushFails s k = false := (pushFails_eq_false s k).mpr h

theorem pushFails_of_not_ok {s : State} {k : Nat} (h : ¬ pushOk s k) : pushFails s k = true := by
  rw [← pushFails_eq_false] at h
  simpa using h

theorem pullFails_of_ok {s : State} {k : Nat} (hk : k ≤ 0xFF) (h : pullOk s k) : pullFails s k = false :=
  (pullFails_eq_false s hk).mpr h

theorem pullFails_of_not_ok {s : State} {k : Nat} (hk : k ≤ 0xFF) (h : ¬ pullOk s k) : pullFails s k = true := by
  rw [← pullFails_eq_false s hk] at h
  simpa using h

/-! ## The slots of pulls -/

theorem pullSlot_toNat (k : Nat) : pullSlot s k = 256 + (s.cpu.s + BitVec.ofNat 8 k).toNat := by
  simp only [pullSlot, BitVec.toNat_add, BitVec.toNat_ofNat]
  omega

theorem pullSlot_ne {j k : Nat} (hjk : j < k) (hk : k < j + 256) : pullSlot s k ≠ pullSlot s j := by
  unfold pullSlot
  omega

/-- A slot still to be pulled is not among the vacated ones. -/
theorem cellRead_pulledRam {k n : Nat} (hkn : k < n) (hn : n ≤ 256) :
    cellRead (pulledRam s k) (pullSlot s n) = cellRead s.ram (pullSlot s n) := by
  induction k with
  | zero => rfl
  | succ k ih =>
    rw [pulledRam]
    split
    · rw [cellRead_write_other _ _ (pullSlot_ne s hkn (by omega)), ih (by omega)]
    · exact ih (by omega)

/-- The state after `k` pulls, with whatever status (R121, R125). -/
def pulledState (k : Nat) (p : Status) : State :=
  { s with ram := pulledRam s k, cpu := { s.cpu with s := s.cpu.s + BitVec.ofNat 8 k, p := p } }

/-- The next pull. -/
theorem pull8_pulledState (k : Nat) (p : Status) (hk : k < 256) :
    pull8 (pulledState s k p) = (pulled s (k + 1), pulledState s (k + 1) p) := by
  have hs : s.cpu.s + BitVec.ofNat 8 k + 1 = s.cpu.s + BitVec.ofNat 8 (k + 1) := by
    rw [BitVec.add_assoc, ← BitVec.ofNat_add_ofNat]
    rfl
  have hread := cellRead_pulledRam s (Nat.lt_succ_self k) (Nat.succ_le_of_lt hk)
  rw [pullSlot_toNat] at hread
  rw [pull8_eq]
  unfold pulledState
  simp only [hs, hread, pulled, pullSlot_toNat, pulledRam]

theorem pulledState_zero : pulledState s 0 s.cpu.p = s := by
  unfold pulledState
  rw [BitVec.add_zero]
  rfl

theorem pull16_pulledState (k : Nat) (p : Status) (hk : k + 1 < 256) :
    pull16 (pulledState s k p) = (wordOf (pulled s (k + 1)) (pulled s (k + 2)), pulledState s (k + 2) p) := by
  simp only [pull16, pull8_pulledState s k p (by omega), pull8_pulledState s (k + 1) p hk]

theorem pull8_first : pull8 s = (pulled s 1, pulledState s 1 s.cpu.p) := by
  have := pull8_pulledState s 0 s.cpu.p (by omega)
  rwa [pulledState_zero] at this

theorem pull16_first : pull16 s = (wordOf (pulled s 1) (pulled s 2), pulledState s 2 s.cpu.p) := by
  have := pull16_pulledState s 0 s.cpu.p (by omega)
  rwa [pulledState_zero] at this

/-- A pulled status byte (R333) as arithmetic. -/
theorem statusOfByte_eq (v : Byte) : statusOfByte v = statusFrom v.toNat := by
  revert v
  decide

theorem pulledRam_startOf (i : Instr) (k : Nat) : pulledRam (startOf i s) k = pulledRam s k := by
  induction k with
  | zero => rfl
  | succ k ih =>
    rw [pulledRam, pulledRam, ih]
    rfl

/-- `S` after three steps down. -/
theorem sub_three (v : Byte) : v - 1 - 1 - 1 = v - 3 := by
  revert v
  decide

theorem sub_two (v : Byte) : v - 1 - 1 = v - 2 := by
  revert v
  decide

/-! ## The shapes -/

section
variable {i : Instr} {m : Mnemonic} (hm : i.entry.mnemonic = m)
include hm

theorem exec_push {k : Nat} {f : Resolved → State} (hc : meaningOf m = .push k f) (hok : pushOk s k)
    (hind : ∀ w, i.entry.operand ≠ .ind w) :
    exec i s = .next (addCycles i.entry.cycles (f { resolveOf i s with st := startOf i s })) := by
  have hst := resolveOf_st s hind
  have hf : pushFails (startOf i s) k = false := pushFails_of_ok hok
  rw [exec_of_mnemonic hm, hc, runMeaning, runPush, ← hst, cycleCount_false]
  rw [← hst] at hf
  simp only [hf]
  rfl

theorem exec_push_fault {k : Nat} {f : Resolved → State} (hc : meaningOf m = .push k f) (hok : ¬ pushOk s k)
    (hind : ∀ w, i.entry.operand ≠ .ind w) :
    exec i s = .next (stackFaulted i s (.stackOverflow s.cpu.s s.cpu.pc)) := by
  have hf : pushFails (startOf i s) k = true := pushFails_of_not_ok (s := startOf i s) hok
  rw [exec_of_mnemonic hm, hc, runMeaning, runPush]
  simp only [resolveOf_st s hind, hf]
  rfl

theorem exec_pull {k : Nat} {f : State → State} (hc : meaningOf m = .pull k f) (hk : k ≤ 0xFF) (hok : pullOk s k) :
    exec i s = .next (addCycles i.entry.cycles (f (startOf i s))) := by
  have hf : pullFails (startOf i s) k = false := pullFails_of_ok (s := startOf i s) hk hok
  rw [exec_of_mnemonic hm, hc, runMeaning, runPull, cycleCount_false]
  simp only [hf]
  rfl

theorem exec_pull_fault {k : Nat} {f : State → State} (hc : meaningOf m = .pull k f) (hk : k ≤ 0xFF)
    (hok : ¬ pullOk s k) : exec i s = .next (stackFaulted i s (.stackUnderflow s.cpu.s s.cpu.pc)) := by
  have hf : pullFails (startOf i s) k = true := pullFails_of_not_ok (s := startOf i s) hk hok
  rw [exec_of_mnemonic hm, hc, runMeaning, runPull]
  simp only [hf]
  rfl

end

/-- The status after RTI is that of the pulled byte, then the word is pulled (R441). -/
theorem returnFromInterrupt_eq : returnFromInterrupt s =
    setPC (pulledState s 3 (statusFrom (pulled s 1).toNat)) (wordOf (pulled s 2) (pulled s 3)) := by
  have hp : setP (pulledState s 1 s.cpu.p) (statusOfByte (pulled s 1)) =
      pulledState s 1 (statusFrom (pulled s 1).toNat) := by
    rw [statusOfByte_eq]
    rfl
  simp only [returnFromInterrupt, pull8_first, hp, pull16_pulledState s 1 _ (by omega)]

/-- Taking an interrupt in the words of the slots (R440, R520). -/
theorem takeInterrupt_pushedRam (ret : Word) (b : Bool) (vector : Word) (h : 0x8000 ≤ vector.toNat)
    (h' : 0x8000 ≤ (vector + 1).toNat) :
    takeInterrupt ret b vector s = { s with
      ram := pushedRam s 0 [highByte ret, lowByte ret, BitVec.ofNat 8 (statusValue s.cpu.p b)]
      cpu := { s.cpu with
        s := s.cpu.s - 3, p := { s.cpu.p with i := true }, pc := wordOf (peek s vector) (peek s (vector + 1)) } } := by
  rw [takeInterrupt_eq ret b vector s h h', pushedRam_three, ← statusByteWith_eq, sub_three]
  simp only [peek, memRead_rom_eq s h, memRead_rom_eq s h']

end Sys2Proof.Machine

namespace Sys2Proof.Proofs

open Sys2Proof.Machine

/-- Settles O27. -/
theorem jumpResults : Obligations.JumpResults := by
  intro s w p
  refine ⟨?abs, ?ind, fun hok => ?jsr⟩
  case abs => rw [exec_eq_runMeaning]; rfl
  case ind =>
    rw [exec_eq_runMeaning]
    have hcpu : p.st.cpu = s.cpu.past 3 := resolve_cpu ..
    change Host.Outcome.next (addCycles _ (setPC p.st p.ea)) = _
    rw [setPC, hcpu]
    rfl
  case jsr =>
    rw [exec_push (i := .jsr w) s rfl rfl hok (by intro _ h; cases h), pushedRam_two, ← sub_two]
    simp only [callTarget, push16_eq]
    rfl

/-- Settles O29. -/
theorem pushResults : Obligations.PushResults := by
  intro s ret status
  refine ⟨fun hok => ?pha, fun hok => ?php, fun hok => ?brk⟩
  case pha =>
    rw [exec_push (i := .pha) s rfl rfl hok (by intro _ h; cases h), pushedRam_one]
    simp only [push8_eq]
    rfl
  case php =>
    rw [exec_push (i := .php) s rfl rfl hok (by intro _ h; cases h), pushedRam_one]
    simp only [push8_eq, statusByteWith_eq]
    rfl
  case brk =>
    rw [exec_push (i := .brk) s rfl rfl hok (by intro _ h; cases h), softwareBreak,
      takeInterrupt_pushedRam _ _ _ _ (by decide) (by decide)]
    rfl

/-- Settles O30. -/
theorem pullResults : Obligations.PullResults := by
  intro s
  refine ⟨fun hok => ?pla, fun hok => ?plp, fun hok => ?rts, fun hok => ?rti⟩
  case pla =>
    rw [exec_pull (i := .pla) s rfl rfl (by decide) hok, pullA, pull8_first, loadA, flagNZ, setNZ_eq_nz, pulledState,
      pulledRam_startOf]
    rfl
  case plp =>
    rw [exec_pull (i := .plp) s rfl rfl (by decide) hok, pullP, pull8_first, statusOfByte_eq, pulledState,
      pulledRam_startOf]
    rfl
  case rts =>
    rw [exec_pull (i := .rts) s rfl rfl (by decide) hok, returnCaller, pull16_first, pulledState, pulledRam_startOf]
    rfl
  case rti =>
    rw [exec_pull (i := .rti) s rfl rfl (by decide) hok, returnFromInterrupt_eq, pulledState, pulledRam_startOf]
    rfl

/-- Settles O31. -/
theorem stackCheckFaults : Obligations.StackCheckFaults := by
  refine fun s => ⟨fun hok i hi => ?push1, fun hok w => ?jsr, fun hok => ?brk, fun hok i hi => ?pull1, fun hok => ?rts,
    fun hok => ?rti⟩
  case push1 =>
    rcases hi with rfl | rfl
    · exact exec_push_fault s rfl rfl hok (by intro _ h; cases h)
    · exact exec_push_fault s rfl rfl hok (by intro _ h; cases h)
  case jsr => exact exec_push_fault s rfl rfl hok (by intro _ h; cases h)
  case brk => exact exec_push_fault s rfl rfl hok (by intro _ h; cases h)
  case pull1 =>
    rcases hi with rfl | rfl
    · exact exec_pull_fault s rfl rfl (by decide) hok
    · exact exec_pull_fault s rfl rfl (by decide) hok
  case rts => exact exec_pull_fault s rfl rfl (by decide) hok
  case rti => exact exec_pull_fault s rfl rfl (by decide) hok

end Sys2Proof.Proofs
end

section
/-! PROOF. Returning (R401, R402, R440, R441, R520, R525): what the pulls after an entry read is what the entry pushed. -/

namespace Sys2Proof.Machine

variable {s t : State}

/-! ## Pulling what was pushed -/

theorem pushSlot_ne (s : State) {j k : Nat} (hjk : j < k) (hk : k < 256) : pushSlot s k ≠ pushSlot s j := by
  unfold pushSlot
  omega

/-- After `n` pushes the pulls read the slots backwards. -/
theorem pullSlot_after_pushes {n k : Nat} (hs : t.cpu.s = s.cpu.s - BitVec.ofNat 8 n) (hk : k ≤ n) (hn : n < 256) :
    pullSlot t k = pushSlot s (n - k) := by
  have := s.cpu.s.isLt
  rw [pullSlot, pushSlot, hs, BitVec.toNat_sub, BitVec.toNat_ofNat]
  omega

theorem pulled_after_two {a b : Byte} (hs : t.cpu.s = s.cpu.s - 2) (hram : t.ram = pushedRam s 0 [a, b]) :
    pulled t 1 = b ∧ pulled t 2 = a := by
  have hslot := fun k hk => pullSlot_after_pushes (k := k) (n := 2) hs hk (by decide)
  constructor
  · rw [pulled, hram, hslot 1 (by decide)]
    exact cellRead_write_same ..
  · rw [pulled, hram, hslot 2 (by decide)]
    exact (cellRead_write_other _ _ (pushSlot_ne s (j := 0) (k := 1) (by decide) (by decide)).symm).trans
      (cellRead_write_same ..)

theorem pulled_after_three {a b c : Byte} (hs : t.cpu.s = s.cpu.s - 3) (hram : t.ram = pushedRam s 0 [a, b, c]) :
    pulled t 1 = c ∧ pulled t 2 = b ∧ pulled t 3 = a := by
  have hslot := fun k hk => pullSlot_after_pushes (k := k) (n := 3) hs hk (by decide)
  have h10 := (pushSlot_ne s (j := 0) (k := 1) (by decide) (by decide)).symm
  have h20 := (pushSlot_ne s (j := 0) (k := 2) (by decide) (by decide)).symm
  have h21 := (pushSlot_ne s (j := 1) (k := 2) (by decide) (by decide)).symm
  refine ⟨?first, ?second, ?third⟩
  case first =>
    rw [pulled, hram, hslot 1 (by decide)]
    exact cellRead_write_same ..
  case second =>
    rw [pulled, hram, hslot 2 (by decide)]
    exact (cellRead_write_other _ _ h21).trans (cellRead_write_same ..)
  case third =>
    rw [pulled, hram, hslot 3 (by decide)]
    exact ((cellRead_write_other _ _ h20).trans (cellRead_write_other _ _ h10)).trans (cellRead_write_same ..)

/-- Pushes that passed their check can be pulled again (R124). -/
theorem pullOk_after_pushes {n : Nat} (hs : t.cpu.s = s.cpu.s - BitVec.ofNat 8 n)
    (hp : t.params = s.params) (h : pushOk s n) : pullOk t n := by
  have := s.cpu.s.isLt
  unfold pullOk
  rw [hp, hs, BitVec.toNat_sub, BitVec.toNat_ofNat]
  refine h.imp id fun hle => ?_
  omega

/-- A pushed status byte gives its flags back, with B as pushed (R36, R41, R333). -/
theorem statusFrom_statusValue (p : Status) (b : Bool) :
    statusFrom (BitVec.ofNat 8 (statusValue p b)).toNat = { p with b := b } := by
  have h : ∀ n v b' d i z c b : Bool, statusFrom (BitVec.ofNat 8 (statusValue ⟨n, v, b', d, i, z, c⟩ b)).toNat =
      ⟨n, v, b, d, i, z, c⟩ := by decide
  exact h ..

/-! ## Returning -/

/-- RTS after two pushes resumes behind the pushed word. -/
theorem exec_rts_after_push {w : Word} (hs : t.cpu.s = s.cpu.s - 2) (hp : t.params = s.params) (hok : pushOk s 2)
    (hram : t.ram = pushedRam s 0 [highByte w, lowByte w]) :
    ∃ u, exec .rts t = .next u ∧ u.cpu = { t.cpu.past 1 with s := s.cpu.s, pc := w + 1 } := by
  obtain ⟨hlow, hhigh⟩ := pulled_after_two hs hram
  have hrts := (Proofs.pullResults t).2.2.1 (pullOk_after_pushes hs hp hok)
  refine ⟨_, hrts, ?_⟩
  rw [hlow, hhigh, wordOf_bytes, hs, BitVec.sub_add_cancel]

/-- RTI after the pushes of an interrupt entry resumes at the pushed word with the pushed status. -/
theorem exec_rti_after_interrupt {w : Word} {b : Bool} (hs : t.cpu.s = s.cpu.s - 3) (hp : t.params = s.params)
    (hok : pushOk s 3)
    (hram : t.ram = pushedRam s 0 [highByte w, lowByte w, BitVec.ofNat 8 (statusValue s.cpu.p b)]) :
    ∃ u, exec .rti t = .next u ∧
      u.cpu = { t.cpu.past 1 with s := s.cpu.s, p := { s.cpu.p with b := b }, pc := w } := by
  obtain ⟨hstatus, hlow, hhigh⟩ := pulled_after_three hs hram
  have hrti := (Proofs.pullResults t).2.2.2 (pullOk_after_pushes hs hp hok)
  refine ⟨_, hrti, ?_⟩
  rw [hstatus, hlow, hhigh, wordOf_bytes, hs, BitVec.sub_add_cancel, statusFrom_statusValue]

/-- NMI entry whose stack check passes (R520). -/
theorem nmiEntry_of_ok (hok : pushOk s 3) : nmiEntry s =
    { s with
      cycles := s.cycles + s.params.nmiEntryCycles
      cpu := { s.cpu with
        s := s.cpu.s - 3, p := { s.cpu.p with i := true }, pc := wordOf (peek s 0xFFFA) (peek s 0xFFFB) }
      ram := pushedRam s 0 [highByte s.cpu.pc, lowByte s.cpu.pc,
        BitVec.ofNat 8 (statusValue s.cpu.p s.params.nmiPushB)] } := by
  rw [nmiEntry, pushFails_of_ok hok, takeInterrupt_pushedRam _ _ _ _ (by decide) (by decide)]
  rfl

theorem nmiEntry_of_not_ok (hok : ¬ pushOk s 3) :
    nmiEntry s = { s with fault := some (s.fault.getD (.stackOverflow s.cpu.s s.cpu.lastPC)) } := by
  rw [nmiEntry, pushFails_of_not_ok hok]
  rfl

end Sys2Proof.Machine

namespace Sys2Proof.Proofs

open Sys2Proof.Machine

/-- Settles O33. -/
theorem callsReturn : Obligations.CallsReturn := by
  refine fun s t => ⟨fun w hok ht => ?jsr, fun hok ht => ?brk⟩
  case jsr =>
    rw [(jumpResults s w).2.2 hok] at ht
    injection ht with ht
    obtain ⟨u, hu, hcpu⟩ :=
      exec_rts_after_push (s := s) (t := t) (by rw [← ht]) (by rw [← ht]) hok (by rw [← ht])
    refine ⟨u, hu, ?_, ?_⟩
    · rw [hcpu]
      exact BitVec.add_assoc ..
    · unfold sameRegisters
      rw [hcpu, ← ht]
      exact ⟨rfl, rfl, rfl, rfl, rfl⟩
  case brk =>
    rw [(pushResults s).2.2 hok] at ht
    injection ht with ht
    obtain ⟨u, hu, hcpu⟩ :=
      exec_rti_after_interrupt (s := s) (t := t) (by rw [← ht]) (by rw [← ht]) hok (by rw [← ht])
    refine ⟨u, hu, ?_⟩
    rw [hcpu, ← ht]
    exact ⟨rfl, rfl, rfl, rfl, rfl, rfl⟩

/-- Settles O34. -/
theorem nmiEntry : Obligations.NmiEntry := by
  refine fun s => ⟨fun hok => ⟨nmiEntry_of_ok hok, ?rti⟩, nmiEntry_of_not_ok⟩
  obtain ⟨u, hu, hcpu⟩ := exec_rti_after_interrupt (s := s) (t := Machine.nmiEntry s) (w := s.cpu.pc)
    (b := s.params.nmiPushB) (by rw [nmiEntry_of_ok hok]) (by rw [nmiEntry_of_ok hok]) hok (by rw [nmiEntry_of_ok hok])
  refine ⟨u, hu, ?_⟩
  rw [hcpu]
  exact ⟨rfl, rfl, rfl⟩

end Sys2Proof.Proofs
end

section
/-! PROOF. The register and flag frame (R31 to R33, R41, R45). -/

namespace Sys2Proof.Machine

/-! ## The frame between two register files -/

/-- What an instruction leaves of the registers and flags, by its destinations and its row of R45. -/
structure RegisterFrame (i : Instr) (k k' : Cpu) : Prop where
  lastPC : k'.lastPC = k.lastPC
  keepsA : writesA i = false → k'.a = k.a
  keepsX : writesX i = false → k'.x = k.x
  keepsY : writesY i = false → k'.y = k.y
  keepsS : writesS i = false → k'.s = k.s
  keepsNZ : writesNZ i.entry.mnemonic = false → k'.p.n = k.p.n ∧ k'.p.z = k.p.z
  keepsV : writesV i.entry.mnemonic = false → k'.p.v = k.p.v
  keepsD : writesD i.entry.mnemonic = false → k'.p.d = k.p.d
  keepsI : writesI i.entry.mnemonic = false → k'.p.i = k.p.i
  keepsC : writesC i.entry.mnemonic = false → k'.p.c = k.p.c
  keepsB : i.entry.mnemonic ≠ .plp → i.entry.mnemonic ≠ .rti → k'.p.b = k.p.b

/-- Moving `PC` is within every frame. -/
theorem RegisterFrame.of_same {i : Instr} {k k' : Cpu} (hl : k'.lastPC = k.lastPC) (ha : k'.a = k.a) (hx : k'.x = k.x) (hy : k'.y = k.y)
    (hs : k'.s = k.s) (hp : k'.p = k.p) : RegisterFrame i k k' := by
  constructor <;> simp [hl, ha, hx, hy, hs, hp]

section
variable {i : Instr} {m : Mnemonic} (hm : i.entry.mnemonic = m)
include hm

/-- The frame of the effect of each reading mnemonic. -/
theorem read_frame {c : Byte → Cpu → Cpu} (hc : meaningOf m = .read c) (v : Byte) (k : Cpu) :
    RegisterFrame i k (c v k) := by
  cases m <;> cases hc <;> constructor <;>
    simp [hm, writesA, writesX, writesY, writesS, writesNZ, nzMnemonics, writesV, writesD, writesI, writesC,
      Cpu.loadA, Cpu.loadX, Cpu.loadY, setNZ, adcFlags, sbcFlags, compareFlags, bitFlags]

/-- The frame of the effect of each implied mnemonic. -/
theorem implied_frame {c : Cpu → Cpu} (hc : meaningOf m = .implied c) (k : Cpu) : RegisterFrame i k (c k) := by
  cases m <;> cases hc <;> constructor <;>
    simp [hm, writesA, writesX, writesY, writesS, writesNZ, nzMnemonics, writesV, writesD, writesI, writesC,
      Cpu.loadA, Cpu.loadX, Cpu.loadY, setNZ]

/-- The frame of the flags of each read-modify-write; the accumulator form also writes `A`. -/
theorem modify_frame {g : Byte → Bool → Byte} {h : Status → Byte → Status} (hc : meaningOf m = .modify g h) (v r : Byte)
    (k : Cpu) (ha : r = k.a ∨ i.entry.operand = .acc) : RegisterFrame i k { k with a := r, p := h k.p v } := by
  have hA : m = .inc ∨ m = .dec → r = k.a := by
    intro hid
    rcases ha with ha | hacc
    · exact ha
    · subst hm
      cases i <;> simp [Instr.entry] at hid hacc
  cases m <;> cases hc <;> constructor <;>
    simp [hm, writesA, writesX, writesY, writesS, writesNZ, nzMnemonics, writesV, writesD, writesI, writesC,
      setNZ, aslFlags, lsrFlags, rolFlags, rorFlags, hA] <;> tauto

/-- The frame of each pushing mnemonic (R33): `S`, and I of BRK. -/
theorem push_frame {n : Nat} {f : Resolved → State} (hc : meaningOf m = .push n f) (r : Resolved) :
    RegisterFrame i r.st.cpu (f r).cpu := by
  cases m <;> cases hc <;> constructor <;>
    simp [hm, writesA, writesX, writesY, writesS, writesNZ, nzMnemonics, writesV, writesD, writesI, writesC,
      push8_eq, push16_eq, callTarget, softwareBreak, takeInterrupt_eq, brkVector]

/-- The frame of each pulling mnemonic (R33): `S`, and what PLA, PLP and RTI load. -/
theorem pull_frame {n : Nat} {f : State → State} (hc : meaningOf m = .pull n f) (s : State) :
    RegisterFrame i s.cpu (f s).cpu := by
  cases m <;> cases hc <;> constructor <;>
    simp [hm, writesA, writesX, writesY, writesS, writesNZ, nzMnemonics, writesV, writesD, writesI, writesC,
      pullA, pullP, returnCaller, returnFromInterrupt_eq, pull8_first, pull16_first, pulledState, loadA, setNZ]

end

/-- Every instruction keeps to its frame, from the register file moved past it. -/
theorem runMeaning_frame (i : Instr) (s : State) :
    RegisterFrame i (s.cpu.movedPast i s) (runMeaning i s (meaningOf i.entry.mnemonic)).cpu := by
  cases hc : meaningOf i.entry.mnemonic with
  | read c =>
    unfold runMeaning runRead
    rw [addCycles_cpu, State.withCpu_cpu, operandOf_cpu]
    exact read_frame rfl hc (operandOf i s).1 (s.cpu.movedPast i s)
  | store reg =>
    have h : (runMeaning i s (.store reg)).cpu = s.cpu.movedPast i s := (memWrite_cpu ..).trans (resolveOf_cpu i s)
    rw [h]
    exact .of_same rfl rfl rfl rfl rfl rfl
  | modify g h =>
    by_cases hacc : i.entry.operand = .acc
    · have ht := eq_runMeaning_of_exec (exec_modify_acc rfl s hc hacc)
      rw [hc] at ht
      rw [← ht]
      exact modify_frame rfl hc s.cpu.a _ (s.cpu.movedPast i s) (.inr hacc)
    · have ht := eq_runMeaning_of_exec (exec_modify rfl s hc hacc)
      rw [hc] at ht
      rw [← ht]
      exact modify_frame rfl hc (operandOf i s).1 s.cpu.a (s.cpu.movedPast i s) (.inl rfl)
  | implied c => exact implied_frame rfl hc (s.cpu.movedPast i s)
  | branch cond =>
    have hcpu := resolveOf_cpu i s
    unfold runMeaning runBranch
    simp only [addCycles_cpu]
    split
    · rw [setPC_cpu, hcpu]
      exact .of_same rfl rfl rfl rfl rfl rfl
    · rw [hcpu]
      exact .of_same rfl rfl rfl rfl rfl rfl
  | jump =>
    have hcpu := resolveOf_cpu i s
    unfold runMeaning runJump
    rw [addCycles_cpu, setPC_cpu, hcpu]
    exact .of_same rfl rfl rfl rfl rfl rfl
  | push k f =>
    have hcpu := resolveOf_cpu i s
    have h := push_frame rfl hc (resolveOf i s)
    rw [hcpu] at h
    unfold runMeaning runPush
    simp only
    split
    · rw [raise_cpu, hcpu]
      exact .of_same rfl rfl rfl rfl rfl rfl
    · exact h
  | pull k f =>
    have h := pull_frame rfl hc (startOf i s)
    unfold runMeaning runPull
    simp only
    split
    · exact .of_same rfl rfl rfl rfl rfl rfl
    · exact h

end Sys2Proof.Machine

namespace Sys2Proof.Proofs

open Sys2Proof.Machine

/-- Settles O35: the meaning of each mnemonic keeps to its row. -/
theorem registerAndFlagFrame : Obligations.RegisterAndFlagFrame := by
  intro i s t ht
  rw [eq_runMeaning_of_exec ht]
  obtain ⟨hlast, ha, hx, hy, hs, hnz, hv, hd, hi, hc, hb⟩ := runMeaning_frame i s
  exact ⟨ha, hx, hy, hs, hlast, hnz, hv, hd, hi, hc, hb⟩

end Sys2Proof.Proofs
end

section
/-! PROOF. The memory frames (R109, R120 to R125, R130): what instructions that store nothing, store one byte, or use the stack
leave as it was. -/

namespace Sys2Proof.Machine

variable {s t u : State}

/-! ## Reads -/

/-- `onlyReads` as the list of fields that may have changed. -/
theorem onlyReads_iff : onlyReads s t ↔ ∃ cpu cycles vb w buf v irq pos, t =
    { s with cpu := cpu, cycles := cycles, ppu := { s.ppu with vblank := vb, w := w, buffer := buf, v := v },
             apu := { s.apu with frameIrq := irq }, pad := { s.pad with pos := pos } } := by
  constructor
  · intro h
    exact ⟨_, _, _, _, _, _, _, _, h⟩
  · rintro ⟨cpu, cycles, vb, w, buf, v, irq, pos, rfl⟩
    rfl

theorem onlyReads_refl (s : State) : onlyReads s s := rfl

theorem onlyReads.trans (h : onlyReads s t) (h' : onlyReads t u) : onlyReads s u := by
  obtain ⟨cpu, cycles, vb, w, buf, v, irq, pos, rfl⟩ := onlyReads_iff.mp h
  obtain ⟨cpu', cycles', vb', w', buf', v', irq', pos', rfl⟩ := onlyReads_iff.mp h'
  rfl

theorem onlyReads_withCpu (s : State) (c : Cpu) : onlyReads s (s.withCpu c) := rfl

theorem onlyReads_memRead (a : Word) (s : State) : onlyReads s (memRead a s).2 := by
  obtain ⟨vb, w, buf, v, irq, pos, h⟩ := memRead_effect a s
  exact onlyReads_iff.mpr ⟨s.cpu, s.cycles, vb, w, buf, v, irq, pos, h⟩

theorem onlyReads_zpPointer (p : Byte) (s : State) : onlyReads s (zpPointer p s).2 :=
  (onlyReads_memRead _ s).trans (onlyReads_memRead _ _)

theorem onlyReads_resolveOf (i : Instr) (s : State) : onlyReads s (resolveOf i s).st := by
  refine (onlyReads_withCpu s (startOf i s).cpu).trans ?_
  change onlyReads (startOf i s) (resolve i.entry.operand (startOf i s)).st
  cases i.entry.operand with
  | indx o => exact onlyReads_zpPointer _ _
  | indy o => exact onlyReads_zpPointer _ _
  | ind o => exact (onlyReads_memRead _ _).trans (onlyReads_memRead _ _)
  | _ => exact onlyReads_refl _

theorem onlyReads_operandOf (i : Instr) (s : State) : onlyReads s (operandOf i s).2 := by
  have hr := onlyReads_resolveOf i s
  unfold operandOf operandValue
  split
  · exact hr
  · exact hr
  · exact hr.trans (onlyReads_memRead _ _)

theorem onlyReads.peek_eq (h : onlyReads s t) {a : Word} (ha : isPort a = false) : peek t a = peek s a := by
  obtain ⟨cpu, cycles, vb, w, buf, v, irq, pos, rfl⟩ := onlyReads_iff.mp h
  exact peek_congr ha rfl rfl rfl rfl

theorem onlyReads.sameMemory (h : onlyReads s t) : sameMemory s t := fun _ ha => h.peek_eq ha

/-! ## Instructions that store nothing -/

/-- The shapes of the instructions that store nothing: reads, register instructions, branches and JMP, and the
accumulator forms of the read-modify-writes. -/
theorem shape_of_storesNothing {i : Instr} (h : storesNothing i = true) :
    match meaningOf i.entry.mnemonic with
    | .store _ | .push _ _ | .pull _ _ => False
    | .modify _ _ => i.entry.operand = .acc
    | _ => True := by
  unfold storesNothing at h
  cases hm : i.entry.mnemonic <;> simp [hm] at h <;> simp [meaningOf, h]

theorem onlyReads_of_storesNothing {i : Instr} (h : storesNothing i = true) (s : State) :
    onlyReads s (runMeaning i s (meaningOf i.entry.mnemonic)) := by
  have hshape := shape_of_storesNothing h
  cases hc : meaningOf i.entry.mnemonic with
  | read c => exact (onlyReads_operandOf i s).trans rfl
  | implied c => rfl
  | modify g k =>
    rw [hc] at hshape
    have ht := eq_runMeaning_of_exec (exec_modify_acc rfl s hc hshape)
    rw [hc] at ht
    rw [← ht]
    rfl
  | branch cond =>
    refine (onlyReads_resolveOf i s).trans ?_
    unfold runMeaning runBranch
    simp only
    split <;> rfl
  | jump => exact (onlyReads_resolveOf i s).trans rfl
  | store reg => rw [hc] at hshape; exact hshape.elim
  | push k f => rw [hc] at hshape; exact hshape.elim
  | pull k f => rw [hc] at hshape; exact hshape.elim

/-! ## Writes -/

/-- A port write changes no RAM byte and not the mapper. -/
theorem portWrite_keeps (s : State) (p : Nat) (v : Byte) :
    (portWrite s p v).ram = s.ram ∧ (portWrite s p v).mapper = s.mapper := by
  unfold portWrite
  iterate 6 (split; · exact ⟨rfl, rfl⟩)
  split
  · unfold writeData ppuWrite patternWrite
    simp only
    split
    · split <;> exact ⟨rfl, rfl⟩
    · split <;> exact ⟨rfl, rfl⟩
  split
  · obtain ⟨vb, w, buf, v', oam, irq, pos, h⟩ := oamDmaCopy_effect v 256 s
    rw [oamDma, h]
    exact ⟨rfl, rfl⟩
  split
  · exact ⟨rfl, rfl⟩
  split <;> exact ⟨rfl, rfl⟩

theorem exists_port {a : Word} (h : isPort a = true) : ∃ p, target a = .port p := by
  cases ht : target a with
  | port p => exact ⟨p, rfl⟩
  | _ => simp [isPort, ht] at h

theorem exists_rom {a : Word} (h : isRom a = true) : ∃ m, target a = .rom m := by
  cases ht : target a with
  | rom m => exact ⟨m, rfl⟩
  | _ => simp [isRom, ht] at h

/-- A write at a port leaves every byte of memory (R104). -/
theorem peek_memWrite_port {a b : Word} (v : Byte) (s : State) (ha : isPort a = true) (hb : isPort b = false) :
    peek (memWrite a v s) b = peek s b := by
  obtain ⟨p, hp⟩ := exists_port ha
  have hw : memWrite a v s = portWrite s p v := by simp [memWrite, hp]
  refine peek_congr hb (memWrite_params ..) (memWrite_cart ..) ?_ ?_
  · rw [hw]
    exact (portWrite_keeps s p v).1
  · rw [hw]
    exact (portWrite_keeps s p v).2

/-- A write below ROM leaves the mapper. -/
theorem memWrite_mapper {a : Word} (v : Byte) (s : State) (ha : isRom a = false) :
    (memWrite a v s).mapper = s.mapper := by
  unfold memWrite
  split
  · rfl
  · exact (portWrite_keeps s _ v).2
  · unfold cartLowWrite
    split <;> rfl
  · next m hm => simp [isRom, hm] at ha

/-- A write away from the ports changes the RAM or the mapper. -/
theorem memWrite_effect_noPort {a : Word} (v : Byte) (s : State) (ha : isPort a = false) :
    ∃ ram mapper, memWrite a v s = { s with ram := ram, mapper := mapper } := by
  unfold memWrite
  split
  · exact ⟨_, s.mapper, rfl⟩
  · next p hp => simp [isPort, hp] at ha
  · unfold cartLowWrite
    split
    · exact ⟨_, s.mapper, rfl⟩
    · exact ⟨s.ram, s.mapper, rfl⟩
  · exact ⟨s.ram, _, rfl⟩

/-- Offsets of work RAM and of the cartridge region do not meet. -/
theorem target_ram_le {a : Word} {n : Nat} (h : target a = .ram n) : n ≤ 0x1FFF := by
  unfold target targetOf at h
  split at h
  · next hle =>
    cases h
    exact hle
  split at h
  · cases h
  split at h <;> cases h

/-- A write below ROM leaves every byte of memory stored elsewhere (R130). -/
theorem peek_memWrite_other {a b : Word} (v : Byte) (s : State) (ha : isRom a = false) (hb : isPort b = false)
    (hne : target b ≠ target a) : peek (memWrite a v s) b = peek s b := by
  cases hta : target a with
  | ram n =>
    rw [show memWrite a v s = s.withRam (cellWrite s.ram n v) by simp [memWrite, hta]]
    exact peek_withRam_cellWrite s s.ram v (target_ram_le hta) hb (hta ▸ hne)
  | port p => exact peek_memWrite_port v s (by simp [isPort, hta]) hb
  | cartLow m =>
    have hw : memWrite a v s = cartLowWrite s m v := by simp [memWrite, hta]
    rw [hw, cartLowWrite]
    split
    · unfold peek memRead
      split
      · next off hoff =>
        have h1 := target_ram_le hoff
        have h2 := lt_of_target_cartLow hta
        exact cellRead_write_other _ _ (by omega)
      · next p hp => simp [isPort, hp] at hb
      · next off hoff =>
        have hoff' : off ≠ m := fun h => hne (by rw [hoff, hta, h])
        simp [cartLowRead, cellRead_write_other _ _ hoff']
      · rfl
    · rfl
  | rom m => simp [isRom, hta] at ha

/-- A write of ROM changes no RAM byte and no PRG byte (R106). -/
theorem memWrite_rom_keeps {a : Word} (v : Byte) (s : State) (ha : isRom a = true) :
    (memWrite a v s).ram = s.ram ∧ (memWrite a v s).cart = s.cart := by
  obtain ⟨m, hm⟩ := exists_rom ha
  simp [memWrite, hm]

/-! ## Instructions that store one byte -/

/-- A storing instruction leaves the state of one write at its effective address, behind its reads; the registers and
the cycles are counted on top. -/
theorem store_effect {i : Instr} (h : storesOne i = true) (s : State) :
    ∃ r v c n, onlyReads s r ∧ (isPort (resolveOf i s).ea = false → r = startOf i s) ∧
      runMeaning i s (meaningOf i.entry.mnemonic) = ((memWrite (resolveOf i s).ea v r).withCpu c).withCycles n := by
  have hshape : (∃ reg, meaningOf i.entry.mnemonic = .store reg) ∨
      ∃ g k, meaningOf i.entry.mnemonic = .modify g k ∧ i.entry.operand ≠ .acc := by
    unfold storesOne at h
    cases hm : i.entry.mnemonic <;> simp [hm] at h <;> simp [meaningOf, h]
    all_goals
      cases i <;> simp [Instr.entry] at hm ⊢
  have hind : ∀ w, i.entry.operand ≠ .ind w := by
    intro w hw
    rw [mnemonic_of_operand_ind hw] at hshape
    simp [meaningOf] at hshape
  rcases hshape with ⟨reg, hc⟩ | ⟨g, k, hc, hacc⟩
  · rw [hc, runMeaning, runStore, resolveOf_st s hind]
    exact ⟨startOf i s, _, (memWrite _ _ (startOf i s)).cpu, _, rfl, fun _ => rfl, rfl⟩
  · have ht := eq_runMeaning_of_exec (exec_modify rfl s hc hacc)
    rw [← ht]
    refine ⟨(operandOf i s).2, g (operandOf i s).1 s.cpu.p.c, { s.cpu with
      p := k s.cpu.p (operandOf i s).1, lastPC := s.cpu.pc, pc := s.cpu.pc + BitVec.ofNat 16 i.entry.bytes },
      (memWrite (resolveOf i s).ea (g (operandOf i s).1 s.cpu.p.c) (operandOf i s).2).cycles + baseCycles i s,
      onlyReads_operandOf i s, fun hport => ?_, rfl⟩
    have himm : ∀ o, i.entry.operand ≠ .imm o := by
      intro o ho
      cases i <;> simp [Instr.entry] at ho <;> simp [Instr.entry, meaningOf] at hc
    rw [operandOf_memory s himm hacc, memRead_eq_peek _ hport, resolveOf_st s hind]

/-! ## Stack instructions -/

/-- Pushes do not look at `PC` or `LastPC`. -/
theorem pushedOn_startOf (s : State) (i : Instr) (k : Nat) (bs : List Byte) (m : Memory) :
    pushedOn (startOf i s) k bs m = pushedOn s k bs m := by
  induction bs generalizing k m with
  | nil => rfl
  | cons b bs ih =>
    rw [pushedOn_cons, pushedOn_cons, ih]
    rfl

/-- Pushes leave every byte of memory outside their slots. -/
theorem peek_withRam_pushedOn (s : State) {k : Nat} {bs : List Byte} (m : Memory) {a : Word} (ha : isPort a = false)
    (hslots : ∀ n, k ≤ n → n < k + bs.length → target a ≠ .ram (pushSlot s n)) :
    peek (s.withRam (pushedOn s k bs m)) a = peek (s.withRam m) a := by
  induction bs generalizing k m with
  | nil => rfl
  | cons b bs ih =>
    have hlen : (b :: bs).length = bs.length + 1 := rfl
    rw [pushedOn_cons, ih _ fun n hn hn' => hslots n (by omega) (by omega)]
    exact peek_withRam_cellWrite s m b ((pushSlot_le s k).trans (by decide)) ha (hslots k (le_refl _) (by omega))

theorem pullSlot_le (s : State) (k : Nat) : pullSlot s k ≤ 0x1FF := by
  unfold pullSlot
  omega

/-- Pulls leave every byte of memory outside their slots. -/
theorem peek_withRam_pulledRam (s : State) {k : Nat} {a : Word} (ha : isPort a = false)
    (hslots : ∀ n, 1 ≤ n → n ≤ k → target a ≠ .ram (pullSlot s n)) :
    peek (s.withRam (pulledRam s k)) a = peek s a := by
  induction k with
  | zero => rfl
  | succ k ih =>
    have hrest := ih fun n h1 h2 => hslots n h1 (by omega)
    rw [pulledRam]
    split
    · rw [peek_withRam_cellWrite s _ 0 ((pullSlot_le s _).trans (by decide)) ha (hslots (k + 1) (by omega) (le_refl _)),
        hrest]
    · exact hrest

theorem pulledRam_keep {s : State} (h : s.params.stackClearOnPop = false) (k : Nat) : pulledRam s k = s.ram := by
  induction k with
  | zero => rfl
  | succ k ih => simp [pulledRam, h, ih]

/-- The state `t` differs from `s` in the register file, the RAM, the cycles and the fault record only, and has the RAM
`ram`. -/
def StackEffect (s : State) (ram : Memory) (t : State) : Prop :=
  t = { s with cpu := t.cpu, ram := ram, cycles := t.cycles, fault := t.fault }

theorem StackEffect.ram_eq {ram : Memory} (h : StackEffect s ram t) : t.ram = ram := by
  rw [h]

theorem StackEffect.only {ram : Memory} (h : StackEffect s ram t) :
    t = { s with cpu := t.cpu, ram := t.ram, cycles := t.cycles, fault := t.fault } := by
  rw [h.ram_eq]
  exact h

theorem StackEffect.peek_eq {ram : Memory} (h : StackEffect s ram t) {a : Word} (ha : isPort a = false) :
    peek t a = peek (s.withRam ram) a := by
  rw [h]
  exact peek_congr ha rfl rfl rfl rfl

variable {i : Instr} {m : Mnemonic} {k : Nat}

/-- A pushing instruction changes the RAM by at most `k` pushes. -/
theorem push_effect {f : Resolved → State} (hm : i.entry.mnemonic = m) (hc : meaningOf m = .push k f)
    (heff : ∀ r : Resolved, ∃ bs : List Byte, bs.length ≤ k ∧ StackEffect r.st (pushedRam r.st 0 bs) (f r))
    (ht : exec i s = .next t) :
    ∃ bs : List Byte, bs.length ≤ k ∧ StackEffect s (pushedRam s 0 bs) t := by
  have hind : ∀ w, i.entry.operand ≠ .ind w := by
    intro w hw
    rw [← hm, mnemonic_of_operand_ind hw] at hc
    cases hc
  by_cases hok : pushOk s k
  · obtain ⟨bs, hlen, h⟩ := heff { resolveOf i s with st := startOf i s }
    rw [exec_push s hm hc hok hind, h] at ht
    injection ht with ht
    subst ht
    exact ⟨bs, hlen, by rw [pushedRam, ← pushedOn_startOf s i]; rfl⟩
  · rw [exec_push_fault s hm hc hok hind] at ht
    injection ht with ht
    subst ht
    exact ⟨[], Nat.zero_le k, rfl⟩

/-- A pulling instruction changes the RAM by its pulls, or not at all. -/
theorem pull_effect {f : State → State} (hm : i.entry.mnemonic = m) (hc : meaningOf m = .pull k f) (hk : k ≤ 0xFF)
    (heff : ∀ u : State, StackEffect u (pulledRam u k) (f u)) (ht : exec i s = .next t) :
    StackEffect s (pulledRam s k) t ∨ StackEffect s s.ram t := by
  by_cases hok : pullOk s k
  · rw [exec_pull s hm hc hk hok, heff, pulledRam_startOf] at ht
    injection ht with ht
    subst ht
    exact .inl rfl
  · rw [exec_pull_fault s hm hc hk hok] at ht
    injection ht with ht
    subst ht
    exact .inr rfl

theorem callTarget_effect (r : Resolved) :
    StackEffect r.st (pushedRam r.st 0 [highByte (r.st.cpu.lastPC + 2), lowByte (r.st.cpu.lastPC + 2)]) (callTarget r) := by
  rw [pushedRam_two]
  simp only [callTarget, push16_eq]
  rfl

theorem softwareBreak_effect (r : Resolved) : ∃ bs : List Byte, bs.length ≤ 3 ∧
    StackEffect r.st (pushedRam r.st 0 bs) (softwareBreak r) := by
  generalize hret : r.st.cpu.lastPC + BitVec.ofNat 16 r.st.params.brkReturnOffset = ret
  refine ⟨[highByte ret, lowByte ret, BitVec.ofNat 8 (statusValue r.st.cpu.p true)], le_refl 3, ?_⟩
  rw [softwareBreak, hret, takeInterrupt_pushedRam r.st ret true brkVector (by decide) (by decide)]
  rfl

/-! ## The frames of pushes and pulls as the obligation states them -/

/-- What a pushing instruction leaves. -/
theorem pushing_frame {f : Resolved → State} (hm : i.entry.mnemonic = m) (hc : meaningOf m = .push k f)
    (heff : ∀ r : Resolved, ∃ bs : List Byte, bs.length ≤ k ∧ StackEffect r.st (pushedRam r.st 0 bs) (f r))
    (ht : exec i s = .next t) :
    t = { s with cpu := t.cpu, ram := t.ram, cycles := t.cycles, fault := t.fault } ∧
    ∀ a : Word, isPort a = false → (∀ n, n < k → target a ≠ .ram (pushSlot s n)) → peek t a = peek s a := by
  obtain ⟨bs, hlen, h⟩ := push_effect hm hc heff ht
  refine ⟨h.only, fun a ha hslots => ?_⟩
  rw [h.peek_eq ha]
  exact peek_withRam_pushedOn s s.ram ha fun n _ hn => hslots n (by omega)

/-- What a pulling instruction leaves. -/
theorem pulling_frame {f : State → State} (hm : i.entry.mnemonic = m) (hc : meaningOf m = .pull k f) (hk : k ≤ 0xFF)
    (heff : ∀ u : State, StackEffect u (pulledRam u k) (f u)) (ht : exec i s = .next t) :
    t = { s with cpu := t.cpu, ram := t.ram, cycles := t.cycles, fault := t.fault } ∧
    (s.params.stackClearOnPop = false → t.ram = s.ram) ∧
    ∀ a : Word, isPort a = false → (∀ n, 1 ≤ n → n ≤ k → target a ≠ .ram (pullSlot s n)) → peek t a = peek s a := by
  rcases pull_effect hm hc hk heff ht with h | h
  · refine ⟨h.only, fun hclear => h.ram_eq.trans (pulledRam_keep hclear k), fun a ha hslots => ?_⟩
    rw [h.peek_eq ha]
    exact peek_withRam_pulledRam s ha hslots
  · exact ⟨h.only, fun _ => h.ram_eq, fun a ha _ => h.peek_eq ha⟩

end Sys2Proof.Machine

namespace Sys2Proof.Proofs

open Sys2Proof.Machine

/-- Settles O36: the instructions that store nothing only read. -/
theorem noStoreFrame : Obligations.NoStoreFrame := by
  intro i s t h ht
  have hr : onlyReads s t := eq_runMeaning_of_exec ht ▸ onlyReads_of_storesNothing h s
  exact ⟨hr, hr.sameMemory⟩

/-- Settles O37: what is stored is one write at the effective address, behind reads. -/
theorem storeFrame : Obligations.StoreFrame := by
  intro i s t h ht ea
  obtain ⟨r, v, c, n, hr, hstart, heff⟩ := store_effect h s
  rw [← eq_runMeaning_of_exec ht] at heff
  subst heff
  have hpeek : ∀ b, isPort b = false →
      peek (((memWrite ea v r).withCpu c).withCycles n) b = peek (memWrite ea v r) b := fun b hb =>
    peek_congr hb rfl rfl rfl rfl
  obtain ⟨hmapper, hrram, hrcart⟩ : r.mapper = s.mapper ∧ r.ram = s.ram ∧ r.cart = s.cart := by
    obtain ⟨_, _, _, _, _, _, _, _, rfl⟩ := onlyReads_iff.mp hr
    exact ⟨rfl, rfl, rfl⟩
  refine ⟨fun hrom => ⟨fun b hb hne => ?_, ?_⟩, fun hport b hb => ?_, fun hrom => ?_, fun hport => ?_⟩
  · rw [hpeek b hb, peek_memWrite_other v r hrom hb hne, hr.peek_eq hb]
  · exact (memWrite_mapper v r hrom).trans hmapper
  · rw [hpeek b hb, peek_memWrite_port v r hport hb, hr.peek_eq hb]
  · obtain ⟨hram, hcart⟩ := memWrite_rom_keeps v r hrom
    exact ⟨hram.trans hrram, hcart.trans hrcart⟩
  · obtain ⟨ram, mapper, hw⟩ := memWrite_effect_noPort v r hport
    rw [hstart hport] at hw ⊢
    rw [hw]
    exact ⟨rfl, rfl, rfl, rfl⟩

/-- Settles O38: the stack instructions change the RAM by their pushes and pulls. -/
theorem stackFrame : Obligations.StackFrame := by
  intro i s t ht
  refine ⟨fun k hk => ?push, fun k hk => ?pull⟩
  case push =>
    rcases hk with ⟨hm, rfl⟩ | ⟨hm, rfl⟩ | ⟨hm, rfl⟩
    · rcases List.mem_pair.mp hm with hm | hm
      · exact pushing_frame hm rfl (fun r => ⟨[r.st.cpu.a], le_refl _, by rw [push8_eq, pushedRam_one]; rfl⟩) ht
      · exact pushing_frame hm rfl (fun r => ⟨[statusByteWith r.st.cpu.p true], le_refl _, by
          rw [push8_eq, pushedRam_one]; rfl⟩) ht
    · exact pushing_frame hm rfl (fun r => ⟨_, le_refl _, callTarget_effect r⟩) ht
    · exact pushing_frame hm rfl softwareBreak_effect ht
  case pull =>
    rcases hk with ⟨hm, rfl⟩ | ⟨hm, rfl⟩ | ⟨hm, rfl⟩
    · rcases List.mem_pair.mp hm with hm | hm
      · exact pulling_frame hm rfl (by decide) (fun u => by rw [pullA, pull8_first]; rfl) ht
      · exact pulling_frame hm rfl (by decide) (fun u => by rw [pullP, pull8_first]; rfl) ht
    · exact pulling_frame hm rfl (by decide) (fun u => by rw [returnCaller, pull16_first]; rfl) ht
    · exact pulling_frame hm rfl (by decide) (fun u => by rw [returnFromInterrupt_eq]; rfl) ht

end Sys2Proof.Proofs
end

section
/-! PROOF. The CPU address space as the obligations describe it: regions, reads after writes, ports (R101 to R109, R130). -/

namespace Sys2Proof.Machine

/-! ## Reads and writes by target -/

theorem memRead_port {a : Word} {p : Nat} (h : target a = .port p) (s : State) : memRead a s = portRead s p := by
  simp [memRead, h]

theorem memWrite_port {a : Word} {p : Nat} (h : target a = .port p) (v : Byte) (s : State) :
    memWrite a v s = portWrite s p v := by
  simp [memWrite, h]

theorem isPort_of_target {a : Word} {p : Nat} (h : target a = .port p) : isPort a = true := by
  simp [isPort, h]

/-- A PPU port and the one of the first eight it repeats (R102) are one target. -/
theorem target_ppu_mirror {a : Word} (h : 0x2000 ≤ a.toNat) (h' : a.toNat ≤ 0x3FFF) :
    target (BitVec.ofNat 16 (0x2000 + a.toNat % 8)) = target a := by
  have hnat : (BitVec.ofNat 16 (0x2000 + a.toNat % 8)).toNat = 0x2000 + a.toNat % 8 := by
    rw [BitVec.toNat_ofNat, Nat.mod_eq_of_lt (by omega)]
  rw [target_ppu h h', target_ppu (by omega) (by omega), hnat]
  congr 2
  omega

/-- An address that is no port's is in work RAM, in the cartridge region or in ROM. -/
theorem region_of_noPort {a : Word} (hp : isPort a = false) :
    a.toNat ≤ 0x1FFF ∨ (0x4020 ≤ a.toNat ∧ a.toNat ≤ 0x7FFF) ∨ 0x8000 ≤ a.toNat := by
  by_contra hcon
  by_cases h : a.toNat ≤ 0x3FFF
  · simp [isPort, target_ppu (a := a) (by omega) h] at hp
  · simp [isPort, target_io (a := a) (by omega) (by omega)] at hp

/-- An address that is no port's and not in ROM is in work RAM or in the cartridge region. -/
theorem region_of_low {a : Word} (hp : isPort a = false) (hr : isRom a = false) :
    a.toNat ≤ 0x1FFF ∨ (0x4020 ≤ a.toNat ∧ a.toNat ≤ 0x7FFF) := by
  have hrom : ¬ 0x8000 ≤ a.toNat := fun h => by simp [isRom, target_rom h] at hr
  rcases region_of_noPort hp with h | h | h
  · exact .inl h
  · exact .inr h
  · exact absurd h hrom

/-- Two addresses, the first in RAM, reach one storage byte exactly when they are equal or mirrors of one work RAM byte. -/
theorem target_eq_iff {a b : Word} (ha : isPort a = false) (hrom : isRom a = false) (hb : isPort b = false) :
    target a = target b ↔
      a = b ∨ (a.toNat ≤ 0x1FFF ∧ b.toNat ≤ 0x1FFF ∧ a.toNat % 0x800 = b.toNat % 0x800) := by
  have heq : a = b ↔ a.toNat = b.toNat := BitVec.toNat_inj.symm
  rcases region_of_low ha hrom with h | ⟨h, h'⟩ <;> rcases region_of_noPort hb with g | ⟨g, g'⟩ | g
  · rw [target_ram h, target_ram g, heq, Target.ram.injEq]
    omega
  · rw [target_ram h, target_cartLow g g', heq]
    simp
    omega
  · rw [target_ram h, target_rom g, heq]
    simp
    omega
  · rw [target_cartLow h h', target_ram g, heq]
    simp
    omega
  · rw [target_cartLow h h', target_cartLow g g', heq, Target.cartLow.injEq]
    omega
  · rw [target_cartLow h h', target_rom g, heq]
    simp
    omega

/-- The byte written to RAM is read back through every address of the same storage byte. -/
theorem peek_memWrite_same {a b : Word} (v : Byte) (s : State) (ha : isPort a = false) (hrom : isRom a = false)
    (hw : a.toNat ≤ 0x1FFF ∨ s.params.lowCartRegion = .ram) (h : target a = target b) : peek (memWrite a v s) b = v := by
  unfold peek memRead memWrite
  rw [← h]
  rcases region_of_low ha hrom with hr | ⟨hr, hr'⟩
  · rw [target_ram hr]
    exact cellRead_write_same _ _ _
  · have hmode : s.params.lowCartRegion = .ram := hw.resolve_left (by omega)
    rw [target_cartLow hr hr']
    simp [cartLowRead, cartLowWrite, hmode]

/-! ## Ports -/

/-- The step of `v` (R631) as a number. -/
theorem bumpV_eq (p : Ppu) : bumpV p =
    { p with v := BitVec.ofNat 15 (p.v.toNat + if p.ctrl.getLsbD 2 then 32 else 1) } := by
  unfold bumpV getBit
  cases p.ctrl.getLsbD 2 <;> simp [BitVec.ofNat_add, BitVec.ofNat_toNat]

/-- The reads without a side effect (R109). -/
theorem portRead_keeps {p : Nat} (s : State) (h2 : p ≠ 0x2002) (h7 : p ≠ 0x2007) (h15 : p ≠ 0x4015) (h16 : p ≠ 0x4016) :
    (portRead s p).2 = s := by
  unfold portRead
  rw [if_neg h2, if_neg h7, if_neg h15, if_neg h16]
  split <;> rfl

theorem padAdvance_eq (p : Pad) :
    padAdvance p = { p with pos := if p.strobe = false ∧ p.pos < 8 then p.pos + 1 else p.pos } := by
  unfold padAdvance
  split <;> rfl

/-- A port without a read handler (R107). -/
theorem portRead_unsupported {p : Nat} (s : State) (h : p ∉ ([0x2002, 0x2004, 0x2007, 0x4015, 0x4016] : List Nat)) :
    portRead s p = (0, s) := by
  simp only [List.mem_cons, List.not_mem_nil, or_false, not_or] at h
  obtain ⟨h2, h4, h7, h15, h16⟩ := h
  simp [portRead, h2, h4, h7, h15, h16]

/-- The APU has no write handler at the ports that are none of its registers. -/
theorem apuWrite_unsupported {p : Nat} (a : Apu) (v : Byte)
    (h : p ∈ ([0x2002, 0x4009, 0x400D, 0x4010, 0x4011, 0x4012, 0x4013] : List Nat) ∨ 0x4018 ≤ p) : apuWrite a p v = none := by
  simp only [List.mem_cons, List.not_mem_nil, or_false] at h
  unfold apuWrite
  iterate 10 rw [if_neg (by omega)]

/-- A port without a write handler (R107), and $2002 (R622). -/
theorem portWrite_unsupported {p : Nat} (s : State) (v : Byte)
    (h : p ∈ ([0x2002, 0x4009, 0x400D, 0x4010, 0x4011, 0x4012, 0x4013] : List Nat) ∨ 0x4018 ≤ p) : portWrite s p v = s := by
  have hapu := apuWrite_unsupported s.apu v h
  simp only [List.mem_cons, List.not_mem_nil, or_false] at h
  unfold portWrite
  iterate 9 rw [if_neg (by omega)]
  rw [hapu]

end Sys2Proof.Machine

namespace Sys2Proof.Proofs

open Sys2Proof.Machine

/-- Settles O39. -/
theorem addressDecoding : Obligations.AddressDecoding := by
  intro a v s
  refine ⟨fun h => ⟨memRead_ram_eq s h, memWrite_ram_eq v s h⟩, fun h h' => ⟨?_, ?_, ?_⟩, fun h h' => ?_,
    fun h h' hm => ?_, fun h h' hm => ?_, fun h => ?_⟩
  · rw [memRead, memRead, target_ppu_mirror h h']
  · rw [memWrite, memWrite, target_ppu_mirror h h']
  · exact isPort_of_target (target_ppu h h')
  · exact isPort_of_target (target_io h h')
  · simp only [memRead, memWrite, target_cartLow h h', cartLowRead, cartLowWrite, hm, true_and]
    rfl
  · simp only [memRead, memWrite, target_cartLow h h', cartLowRead, cartLowWrite, hm, and_self]
  · simp [isRom, target_rom h]

/-- Settles O40. -/
theorem readAfterWrite : Obligations.ReadAfterWrite := by
  intro a b v s ha hrom hb hw
  refine ⟨target_eq_iff ha hrom hb, ?_⟩
  by_cases h : target a = target b
  · rw [if_pos h, peek_memWrite_same v s ha hrom hw h]
  · rw [if_neg h, peek_memWrite_other v s hrom hb (fun h' => h h'.symm)]

/-- Settles O41. -/
theorem readSideEffects : Obligations.ReadSideEffects := by
  intro a s
  refine ⟨fun h => ?status, fun h => ?data, fun h => ?apu, fun h => ?pad, fun h2 h7 h15 h16 => ?other⟩
  case status => rw [memRead_port h]; rfl
  case data =>
    rw [memRead_port h]
    change (readData s).2 = _
    by_cases hv : s.ppu.v.toNat % 0x4000 < 0x3F00
    · rw [readData_below hv, bumpV_eq, if_pos hv]; rfl
    · rw [readData_palette hv, bumpV_eq, if_neg hv]; rfl
  case apu => rw [memRead_port h]; rfl
  case pad =>
    rw [memRead_port h]
    change s.withPad (padAdvance s.pad) = _
    rw [padAdvance_eq]; rfl
  case other =>
    by_cases hp : isPort a = true
    · obtain ⟨p, hp⟩ := exists_port hp
      rw [memRead_port hp]
      rw [hp] at h2 h7 h15 h16
      exact portRead_keeps s (fun h => h2 (h ▸ rfl)) (fun h => h7 (h ▸ rfl)) (fun h => h15 (h ▸ rfl))
        (fun h => h16 (h ▸ rfl))
    · exact memRead_noPort s fun p hp' => hp (isPort_of_target hp')

/-- Settles O42. -/
theorem unsupportedPorts : Obligations.UnsupportedPorts := by
  intro a v s p h
  rw [memRead_port h, memWrite_port h]
  exact ⟨portRead_unsupported s, portWrite_unsupported s v⟩

end Sys2Proof.Proofs
end

section
/-! PROOF. The mappers (R162 to R190). -/

namespace Sys2Proof.Machine

/-- The PRG byte at a ROM address by its bank (R162). -/
theorem memRead_rom_bank {a : Word} (s : State) (h : 0x8000 ≤ a.toNat) : memRead a s =
    (prgByte s.cart (prgBank s.mapper s.cart.nPrg (decide (0xC000 ≤ a.toNat))) (a.toNat % 0x4000), s) :=
  memRead_rom_eq s h

/-- The choice by the half of ROM an address is in. -/
theorem half_ite {α : Type} (n : Nat) (hi lo : α) :
    (if decide (0xC000 ≤ n) = true then hi else lo) = if n < 0xC000 then lo else hi := by
  by_cases h : n < 0xC000
  · rw [if_pos h, if_neg (by simpa using h)]
  · rw [if_neg h, if_pos (by simpa using h)]

/-- The MMC1's PRG bank from its registers as numbers (R177). -/
theorem mmc1PrgBank_eq (r : Mmc1) (nPrg n : Nat) : mmc1PrgBank r nPrg (decide (0xC000 ≤ n)) =
    if r.control.toNat / 4 % 4 ≤ 1 then r.prg.toNat % 16 / 2 * 2 + (if n < 0xC000 then 0 else 1)
    else if r.control.toNat / 4 % 4 = 2 then (if n < 0xC000 then 0 else r.prg.toNat % 16)
    else (if n < 0xC000 then r.prg.toNat % 16 else nPrg - 1) := by
  have hle : ∀ k : Nat, (k = 0 ∨ k = 1) ↔ k ≤ 1 := by omega
  have hpm : (getField r.control 2 2).toNat = r.control.toNat / 4 % 4 := getField_toNat ..
  have hpb : (getField r.prg 0 4).toNat = r.prg.toNat % 16 := by simp [getField_toNat]
  simp only [mmc1PrgBank, hpm, hpb, hle, bitNat, half_ite]

/-- UNROM's bank of a written value (R170). -/
theorem unromBank_eq (nPrg : Nat) (v : Byte) : (if nPrg ≥ 8 then getField v 0 3 else getField v 0 3 &&& 3) =
    BitVec.ofNat 3 (if 8 ≤ nPrg then v.toNat % 8 else v.toNat % 4) := by
  by_cases h : 8 ≤ nPrg
  · rw [if_pos h, if_pos h]
    exact BitVec.eq_of_toNat_eq (by simp [getField_toNat])
  · rw [if_neg h, if_neg h]
    revert v
    decide

/-- CNROM's bank of a written value (R185). -/
theorem cnromBank_eq (v : Byte) : getField v 0 2 = BitVec.ofNat 2 (v.toNat % 4) :=
  BitVec.eq_of_toNat_eq (by simp [getField_toNat])

/-! ## The MMC1's serial port -/

/-- A write with bit 7 set (R175). -/
theorem mmc1Write_reset (r : Mmc1) (m : Nat) {v : Byte} (h : 128 ≤ v.toNat) :
    mmc1Write r m v = { r with shift := 0, count := 0, control := r.control ||| 0x0C } := by
  have hbit : getBit v 7 = true := by
    rw [getBit_seven]
    simpa using h
  rw [mmc1Write, if_pos hbit]

/-- The shift register with the low bit of `v` shifted in. -/
def shiftedIn (shift : BitVec 5) (v : Byte) : BitVec 5 := BitVec.ofNat 5 (shift.toNat / 2 + 16 * (v.toNat % 2))

theorem shiftedIn_toNat (shift : BitVec 5) (v : Byte) :
    (shiftedIn shift v).toNat = shift.toNat / 2 + 16 * (v.toNat % 2) := by
  rw [shiftedIn, BitVec.toNat_ofNat, Nat.mod_eq_of_lt (by omega)]

theorem shiftedIn_eq (shift : BitVec 5) (v : Byte) :
    (shift >>> 1) ||| (getField v 0 1).setWidth 5 <<< 4 = shiftedIn shift v := by
  have hbit : (getField v 0 1).toNat = v.toNat % 2 := by simp [getField_toNat]
  rw [shiftedIn, ← hbit]
  generalize getField v 0 1 = b
  revert shift b
  decide

/-- A serial write before the fifth (R175). -/
theorem mmc1Write_shift {r : Mmc1} (m : Nat) {v : Byte} (h : v.toNat < 128) (hc : r.count < 4) :
    mmc1Write r m v = { r with shift := shiftedIn r.shift v, count := r.count + 1 } := by
  have hbit : getBit v 7 = false := by
    rw [getBit_seven]
    simpa using h
  rw [mmc1Write, if_neg (by simp [hbit]), if_neg (by omega), shiftedIn_eq]

/-- The register an address selects takes the word, the shift state is empty (R175). -/
def mmc1Commit (r : Mmc1) (m : Nat) (word : BitVec 5) : Mmc1 :=
  if m ≤ 0x9FFF then { r with shift := 0, count := 0, control := word }
  else if m ≤ 0xBFFF then { r with shift := 0, count := 0, chr0 := word }
  else if m ≤ 0xDFFF then { r with shift := 0, count := 0, chr1 := word }
  else { r with shift := 0, count := 0, prg := word }

/-- The fifth serial write (R175). -/
theorem mmc1Write_fifth {r : Mmc1} (m : Nat) {v : Byte} (h : v.toNat < 128) (hc : r.count = 4) :
    mmc1Write r m v = mmc1Commit r m (shiftedIn r.shift v) := by
  have hbit : getBit v 7 = false := by
    rw [getBit_seven]
    simpa using h
  rw [mmc1Write, if_neg (by simp [hbit]), if_pos (by omega), shiftedIn_eq]
  rfl

theorem memWrite_mmc1 {a : Word} {s : State} {r : Mmc1} (v : Byte) (h : 0x8000 ≤ a.toNat) (hm : s.mapper = .mmc1 r) :
    memWrite a v s = s.withMapper (.mmc1 (mmc1Write r a.toNat v)) := by
  rw [memWrite_rom_eq v s h, hm]
  rfl

/-- Five bits shifted in, whatever the register held. -/
theorem shiftedIn_five (shift : BitVec 5) (v0 v1 v2 v3 v4 : Byte) :
    shiftedIn (shiftedIn (shiftedIn (shiftedIn (shiftedIn shift v0) v1) v2) v3) v4 =
      BitVec.ofNat 5 (v0.toNat % 2 + 2 * (v1.toNat % 2) + 4 * (v2.toNat % 2) + 8 * (v3.toNat % 2) +
        16 * (v4.toNat % 2)) := by
  apply BitVec.eq_of_toNat_eq
  have := shift.isLt
  simp only [shiftedIn_toNat, BitVec.toNat_ofNat]
  omega

/-! ## CHR offsets -/

/-- A bank of `unit` bytes that the number of banks reduces lies inside the memory. -/
theorem bank_offset_lt {size unit : Nat} (b : Nat) {off : Nat} (hsize : unit ≤ size) (hoff : off < unit) :
    b % (size / unit) * unit + off < size := by
  have hunit : 0 < unit := by omega
  have hbanks : 0 < size / unit := Nat.div_pos hsize hunit
  have hb : b % (size / unit) + 1 ≤ size / unit := Nat.mod_lt b hbanks
  calc b % (size / unit) * unit + off < (b % (size / unit) + 1) * unit := by rw [Nat.succ_mul]; omega
    _ ≤ size / unit * unit := Nat.mul_le_mul_right _ hb
    _ ≤ size := Nat.div_mul_le_self _ _

/-- The MMC1's CHR bank by its control bit 4 as a number (R178). -/
theorem chrOffset_mmc1 (r : Mmc1) (size p : Nat) : chrOffset (.mmc1 r) size p =
    (if r.control.toNat / 16 = 0 then r.chr0.toNat / 2 * 2 + p / 0x1000
     else if p < 0x1000 then r.chr0.toNat else r.chr1.toNat) % (size / 0x1000) * 0x1000 + p % 0x1000 := by
  have hlt := r.control.isLt
  have hbit : getBit r.control 4 = decide (¬ r.control.toNat / 16 = 0) := by
    rw [getBit_eq_div_mod]
    congr 1
    rw [eq_iff_iff]
    omega
  have hswap : ∀ x y : Nat, (if getBit r.control 4 = true then x else y) = if r.control.toNat / 16 = 0 then y else x := by
    intro x y
    rw [hbit]
    by_cases h : r.control.toNat / 16 = 0 <;> simp [h]
  simp only [chrOffset, hswap]

theorem chrOffset_cnrom (b : BitVec 2) {size : Nat} (p : Nat) (h : 8192 ≤ size) :
    chrOffset (.cnrom b) size p = b.toNat % (size / 0x2000) * 0x2000 + p := by
  have : max 1 (size / 8192) = size / 8192 := max_eq_right (Nat.div_pos h (by omega))
  rw [chrOffset, this]

/-- The mappers without CHR banks (R168, R172). -/
theorem chrOffset_plain {m : Mapper} (h : m = .absent ∨ m = .nrom ∨ ∃ b, m = .unrom b) {size p : Nat} (hp : p < size) :
    chrOffset m size p = p := by
  rcases h with rfl | rfl | ⟨b, rfl⟩
  · exact Nat.mod_eq_of_lt hp
  · exact Nat.mod_eq_of_lt hp
  · exact Nat.mod_eq_of_lt hp

/-- A pattern address is translated to an offset inside CHR memory (R163). -/
theorem chrOffset_lt (m : Mapper) {size p : Nat} (hsize : 8192 ≤ size) (hp : p < 0x2000) : chrOffset m size p < size := by
  cases m with
  | mmc1 r =>
    rw [chrOffset_mmc1]
    exact bank_offset_lt _ (by omega) (Nat.mod_lt _ (by omega))
  | cnrom b =>
    rw [chrOffset_cnrom b p hsize]
    exact bank_offset_lt _ hsize hp
  | absent => exact Nat.mod_lt _ (by omega)
  | nrom => exact Nat.mod_lt _ (by omega)
  | unrom b => exact Nat.mod_lt _ (by omega)

end Sys2Proof.Machine

namespace Sys2Proof.Proofs

open Sys2Proof.Machine

/-- Settles O43. -/
theorem prgMapping : Obligations.PrgMapping := by
  intro a s h
  rw [memRead_rom_bank s h]
  refine ⟨fun hm => ?_, fun b hm => ?_, fun r hm => ?_⟩
  · rcases hm with hm | ⟨b, hm⟩
    · rw [hm, prgBank, half_ite]
    · rw [hm, prgBank, half_ite]
  · rw [hm, prgBank, half_ite]
  · rw [hm, prgBank, mmc1PrgBank_eq]

/-- Settles O44. -/
theorem bankWrites : Obligations.BankWrites := by
  intro a v s h
  rw [memWrite_rom_eq v s h]
  refine ⟨rfl, ⟨_, rfl⟩, fun hm => ?_, fun b hm => ?_, fun b hm => ?_⟩
  · rw [hm, mapperWrite, ← hm]; rfl
  · rw [hm, mapperWrite, unromBank_eq]; rfl
  · rw [hm, mapperWrite, cnromBank_eq]; rfl

/-- Settles O45. -/
theorem mmc1Serial : Obligations.Mmc1Serial := by
  intro s r hm
  refine ⟨fun a v ha hv => ?reset, fun a v ha hv hc => ?shift, ?five⟩
  case reset => rw [memWrite_mmc1 v ha hm, mmc1Write_reset r a.toNat hv]; rfl
  case shift => rw [memWrite_mmc1 v ha hm, mmc1Write_shift a.toNat hv hc]; rfl
  case five =>
    intro a0 a1 a2 a3 a4 v0 v1 v2 v3 v4 hc h0 h1 h2 h3 h4 g0 g1 g2 g3 g4
    simp only [writeMany]
    rw [memWrite_mmc1 v0 h0 hm, mmc1Write_shift _ g0 (by omega), memWrite_mmc1 v1 h1 rfl,
      mmc1Write_shift _ g1 (by simp [hc]), memWrite_mmc1 v2 h2 rfl, mmc1Write_shift _ g2 (by simp [hc]),
      memWrite_mmc1 v3 h3 rfl, mmc1Write_shift _ g3 (by simp [hc]), memWrite_mmc1 v4 h4 rfl,
      mmc1Write_fifth _ g4 (by simp [hc]), shiftedIn_five]
    rfl

/-- Settles O46. -/
theorem chrMapping : Obligations.ChrMapping := by
  intro m size p hpos hsize hp
  have hle : 8192 ≤ size := by omega
  refine ⟨chrOffset_lt m hle hp, fun hm => chrOffset_plain (.inr hm) (by omega), fun r hm => ?_, fun b hm => ?_⟩
  · rw [hm, chrOffset_mmc1]
  · rw [hm, chrOffset_cnrom b p hle]

end Sys2Proof.Proofs
end

section
/-! PROOF. The PPU's memory and its ports (R163, R164, R611 to R613, R620 to R632). -/

namespace Sys2Proof.Machine

variable (s : State)

/-! ## The PPU address space -/

section
variable {s} {a : Nat} (v : Byte)

theorem ppuRead_pattern (h : a < 0x2000) : ppuRead s a = patternRead s a := by
  have hmod : a % 0x4000 = a := Nat.mod_eq_of_lt (by omega)
  simp [ppuRead, hmod, h]

theorem ppuRead_nametable (h : 0x2000 ≤ a) (h' : a < 0x3F00) : ppuRead s a = cellRead s.ppu.nt (ntIndex s a) := by
  have hmod : a % 0x4000 = a := Nat.mod_eq_of_lt (by omega)
  have hlow : ¬ a < 0x2000 := by omega
  simp [ppuRead, hmod, hlow, h']

theorem ppuRead_palette (h : 0x3F00 ≤ a) (h' : a < 0x4000) : ppuRead s a = cellRead s.ppu.pal (palIndex a) := by
  have hmod : a % 0x4000 = a := Nat.mod_eq_of_lt h'
  have hlow : ¬ a < 0x2000 := by omega
  have hmid : ¬ a < 0x3F00 := by omega
  simp [ppuRead, hmod, hlow, hmid]

theorem ppuWrite_pattern (h : a < 0x2000) : ppuWrite s a v = patternWrite s a v := by
  have hmod : a % 0x4000 = a := Nat.mod_eq_of_lt (by omega)
  simp [ppuWrite, hmod, h]

theorem ppuWrite_nametable (h : 0x2000 ≤ a) (h' : a < 0x3F00) :
    ppuWrite s a v = s.withPpu { s.ppu with nt := cellWrite s.ppu.nt (ntIndex s a) v } := by
  have hmod : a % 0x4000 = a := Nat.mod_eq_of_lt (by omega)
  have hlow : ¬ a < 0x2000 := by omega
  simp [ppuWrite, hmod, hlow, h']

theorem ppuWrite_palette (h : 0x3F00 ≤ a) (h' : a < 0x4000) :
    ppuWrite s a v = s.withPpu { s.ppu with pal := cellWrite s.ppu.pal (palIndex a) v } := by
  have hmod : a % 0x4000 = a := Nat.mod_eq_of_lt h'
  have hlow : ¬ a < 0x2000 := by omega
  have hmid : ¬ a < 0x3F00 := by omega
  simp [ppuWrite, hmod, hlow, hmid]

end

/-- With CHR RAM a pattern byte is the byte of CHR RAM at the mapper's offset (R163). -/
theorem patternRead_ram {s : State} (h : hasChrRam s = true) (p : Nat) :
    patternRead s p = cellRead s.chrRam (chrOffset s.mapper 8192 p) := by
  simp [patternRead, chrSize, h]

theorem patternWrite_ram {s : State} (h : hasChrRam s = true) (p : Nat) (v : Byte) :
    patternWrite s p v = s.withChrRam (cellWrite s.chrRam (chrOffset s.mapper 8192 p) v) := by
  simp [patternWrite, chrSize, h]

theorem hasChrRam_rom {s : State} (h : 0 < s.cart.nChr) : hasChrRam s = false := by
  have : s.cart.nChr ≠ 0 := by omega
  simp [hasChrRam, this]

/-- With CHR ROM a pattern byte is the byte of the cartridge at the mapper's offset (R163). -/
theorem patternRead_rom {s : State} (h : 0 < s.cart.nChr) (p : Nat) :
    patternRead s p = cellRead s.cart.chr (chrOffset s.mapper (8192 * s.cart.nChr) p) := by
  have : s.cart.nChr ≠ 0 := by omega
  simp [patternRead, chrSize, hasChrRam_rom h, this]

/-- CHR ROM is not written (R164). -/
theorem patternWrite_rom {s : State} (h : 0 < s.cart.nChr) (p : Nat) (v : Byte) : patternWrite s p v = s := by
  simp [patternWrite, hasChrRam_rom h]

/-! ## Mirroring -/

theorem mirrorMode_le : mirrorMode s ≤ 3 := by
  have hheader : (if s.cart.mirroring then 2 else 3) ≤ 3 := by split <;> decide
  cases hm : s.mapper with
  | mmc1 r =>
    have hfield := (getField r.control 0 2).isLt
    simp only [mirrorMode, hm]
    split
    · exact Nat.le_of_lt_succ hfield
    · exact hheader
  | _ =>
    simp only [mirrorMode, hm]
    exact hheader

theorem nametable_offset {a : Nat} (h : 0x2000 ≤ a) : (a - 0x2000) % 0x1000 = a % 0x1000 := by omega

/-- Two nametable addresses share a byte exactly when they have the same offset in their pages and the mode folds the pages
onto each other (R612). -/
theorem ntIndex_eq_iff {a b : Nat} (ha : 0x2000 ≤ a) (hb : 0x2000 ≤ b) : ntIndex s b = ntIndex s a ↔
    a % 0x1000 % 0x400 = b % 0x1000 % 0x400 ∧
      (mirrorMode s = 2 → a % 0x1000 / 0x400 % 2 = b % 0x1000 / 0x400 % 2) ∧
      (mirrorMode s = 3 → a % 0x1000 / 0x800 = b % 0x1000 / 0x800) := by
  have hmode := mirrorMode_le s
  simp only [ntIndex, nametable_offset ha, nametable_offset hb, ntPage]
  generalize mirrorMode s = mode at hmode
  split
  · omega
  split
  · omega
  split
  · omega
  · omega

/-- Palette entries share a byte exactly when their numbers agree modulo 32, or modulo 16 for the first of each four
(R613). -/
theorem palIndex_eq_iff (a b : Nat) : palIndex b = palIndex a ↔ a % 32 = b % 32 ∨ (a % 4 = 0 ∧ a % 16 = b % 16) := by
  unfold palIndex
  simp only
  split <;> split <;> omega

/-- The mode a header gives, and the MMC1's (R612). -/
theorem mirrorMode_header {s : State} (h : (∀ r, s.mapper ≠ .mmc1 r) ∨ s.params.mmc1MirroringApplied = false) :
    mirrorMode s = if s.cart.mirroring = true then 2 else 3 := by
  cases hm : s.mapper with
  | mmc1 r =>
    rcases h with h | h
    · exact absurd hm (h r)
    · simp [mirrorMode, hm, h]
  | _ => simp only [mirrorMode, hm]

theorem mirrorMode_mmc1 {s : State} {r : Mmc1} (h : s.mapper = .mmc1 r) (happ : s.params.mmc1MirroringApplied = true) :
    mirrorMode s = r.control.toNat % 4 := by
  simp [mirrorMode, h, happ, getField_toNat]

/-! ## $2007 -/

theorem readData_below_eq {s : State} (h : s.ppu.v.toNat % 0x4000 < 0x3F00) : readData s =
    (s.ppu.buffer, { s with ppu := { s.ppu with
      buffer := ppuRead s (s.ppu.v.toNat % 0x4000)
      v := BitVec.ofNat 15 (s.ppu.v.toNat + if s.ppu.ctrl.getLsbD 2 then 32 else 1) } }) := by
  rw [readData_below h, bumpV_eq]
  rfl

theorem readData_palette_eq {s : State} (h : ¬ s.ppu.v.toNat % 0x4000 < 0x3F00) : readData s =
    (ppuRead s (s.ppu.v.toNat % 0x4000), { s with ppu := { s.ppu with
      v := BitVec.ofNat 15 (s.ppu.v.toNat + if s.ppu.ctrl.getLsbD 2 then 32 else 1) } }) := by
  rw [readData_palette h, bumpV_eq]
  rfl

/-- A PPU write changes neither `v` nor `ctrl`. -/
theorem ppuWrite_v_ctrl (a : Nat) (v : Byte) : (ppuWrite s a v).ppu.v = s.ppu.v ∧ (ppuWrite s a v).ppu.ctrl = s.ppu.ctrl := by
  unfold ppuWrite patternWrite
  simp only
  split
  · split <;> exact ⟨rfl, rfl⟩
  · split <;> exact ⟨rfl, rfl⟩

/-! ## Scroll and address registers as numbers -/

variable (t : BitVec 15) (v : Byte)

theorem nametableBits_toNat : (setField t 10 (getField v 0 2)).toNat =
    t.toNat / 4096 * 4096 + v.toNat % 4 * 1024 + t.toNat % 1024 := by
  simp [setField_toNat, getField_toNat]

theorem coarseX_toNat : (setField t 0 (getField v 3 5)).toNat = t.toNat / 32 * 32 + v.toNat / 8 := by
  have := v.isLt
  simp [setField_toNat, getField_toNat]
  omega

theorem scrollY_toNat : (setField (setField t 12 (getField v 0 3)) 5 (getField v 3 5)).toNat =
    v.toNat % 8 * 4096 + t.toNat / 1024 % 4 * 1024 + v.toNat / 8 * 32 + t.toNat % 32 := by
  have := v.isLt
  have := t.isLt
  simp [setField_toNat, getField_toNat]
  omega

theorem addressHigh_toNat : (setField (setField t 8 (getField v 0 6)) 14 (0#1)).toNat =
    v.toNat % 64 * 256 + t.toNat % 256 := by
  have := v.isLt
  have := t.isLt
  simp [setField_toNat, getField_toNat]
  omega

theorem addressLow_toNat : (setField t 0 v).toNat = t.toNat / 256 * 256 + v.toNat := by
  simp [setField_toNat, Nat.mod_one]

theorem fineX_eq : getField v 0 3 = BitVec.ofNat 3 (v.toNat % 8) := BitVec.eq_of_toNat_eq (by simp [getField_toNat])

/-- The status byte of $2002 as a number (R622). -/
theorem statusBits_eq (p : Ppu) :
    statusBits p = BitVec.ofNat 8 (128 * bitNat p.vblank + 64 * bitNat p.sprite0hit + 32 * bitNat p.overflow) := by
  unfold statusBits
  cases p.vblank <;> cases p.sprite0hit <;> cases p.overflow <;> rfl

variable {s}

theorem memWrite_scroll_first (h : s.ppu.w = false) : memWrite 0x2005 v s = { s with ppu := { s.ppu with
    t := setField s.ppu.t 0 (getField v 3 5), x := BitVec.ofNat 3 (v.toNat % 8), w := true } } := by
  rw [← fineX_eq]
  change s.withPpu (writeScroll s.ppu v) = _
  rw [writeScroll, if_neg (by simp [h])]
  rfl

theorem memWrite_scroll_second (h : s.ppu.w = true) : memWrite 0x2005 v s = { s with ppu := { s.ppu with
    t := setField (setField s.ppu.t 12 (getField v 0 3)) 5 (getField v 3 5), w := false } } := by
  change s.withPpu (writeScroll s.ppu v) = _
  rw [writeScroll, if_pos h]
  rfl

theorem memWrite_address_first (h : s.ppu.w = false) : memWrite 0x2006 v s = { s with ppu := { s.ppu with
    t := setField (setField s.ppu.t 8 (getField v 0 6)) 14 (0#1), w := true } } := by
  change s.withPpu (writeAddr s.ppu v) = _
  rw [writeAddr, if_neg (by simp [h])]
  rfl

theorem memWrite_address_second (h : s.ppu.w = true) : memWrite 0x2006 v s = { s with ppu := { s.ppu with
    t := setField s.ppu.t 0 v, v := setField s.ppu.t 0 v, w := false } } := by
  change s.withPpu (writeAddr s.ppu v) = _
  rw [writeAddr, if_pos h]
  rfl

end Sys2Proof.Machine

namespace Sys2Proof.Proofs

open Sys2Proof.Machine

/-- Settles O47. -/
theorem videoMirroring : Obligations.VideoMirroring := by
  intro s a b v
  refine ⟨fun ha hb => ⟨fun hchr hram => ?chrRam, fun hchr => ?chrRom⟩, fun ha ha' => ⟨_, ppuWrite_nametable v ha ha'⟩,
    fun ha ha' => ⟨_, ppuWrite_palette v ha ha'⟩, fun ha ha' hb hb' => ?nt, fun ha ha' hb hb' => ?pal, mirrorMode_header,
    fun r => mirrorMode_mmc1⟩
  case chrRam =>
    have h : hasChrRam s = true := by simp [hasChrRam, hchr, hram]
    rw [ppuWrite_pattern v ha, patternWrite_ram h, ppuRead_pattern hb, ppuRead_pattern hb, patternRead_ram h,
      patternRead_ram (s := s.withChrRam (cellWrite s.chrRam (chrOffset s.mapper 8192 a) v)) h]
    exact ⟨⟨_, rfl⟩, rfl, (cellRead_write _ _ _ _).trans (if_congr eq_comm rfl rfl)⟩
  case chrRom =>
    rw [ppuWrite_pattern v ha, patternWrite_rom hchr, ppuRead_pattern hb, patternRead_rom hchr]
    exact ⟨rfl, rfl⟩
  case nt =>
    rw [ppuWrite_nametable v ha ha', ppuRead_nametable hb hb', ppuRead_nametable hb hb']
    exact (cellRead_write _ _ _ _).trans (if_congr (ntIndex_eq_iff s ha hb) rfl rfl)
  case pal =>
    rw [ppuWrite_palette v ha ha', ppuRead_palette hb hb', ppuRead_palette hb hb']
    exact (cellRead_write _ _ _ _).trans (if_congr (palIndex_eq_iff a b) rfl rfl)

/-- Settles O48. -/
theorem scrollAndAddress : Obligations.ScrollAndAddress := by
  intro s v x y t
  refine ⟨⟨_, rfl, nametableBits_toNat _ _⟩, rfl, rfl, ?oam, rfl, ?status, fun hw => ?first, fun hw => ?second⟩
  case oam =>
    have hstep : BitVec.ofNat 8 (s.ppu.oamaddr.toNat + 1) = s.ppu.oamaddr + 1 := by
      simp [BitVec.ofNat_add, BitVec.ofNat_toNat]
    rw [hstep]
    rfl
  case status =>
    rw [← statusBits_eq]
    rfl
  case first =>
    refine ⟨⟨_, memWrite_scroll_first v hw, coarseX_toNat _ _⟩, ⟨_, memWrite_address_first v hw, addressHigh_toNat _ _⟩,
      ⟨setField (setField (setField s.ppu.t 0 (getField x 3 5)) 12 (getField y 0 3)) 5 (getField y 3 5), ?_, ?_⟩,
      ⟨setField (setField (setField s.ppu.t 8 (getField x 0 6)) 14 (0#1)) 0 y, ?_, ?_⟩⟩
    · simp only [writeMany]
      rw [memWrite_scroll_first x hw, memWrite_scroll_second y rfl, ← hw]
    · have := x.isLt
      rw [scrollY_toNat, coarseX_toNat]
      omega
    · simp only [writeMany]
      rw [memWrite_address_first x hw, memWrite_address_second y rfl, ← hw]
    · rw [addressLow_toNat, addressHigh_toNat]
      omega
  case second =>
    exact ⟨⟨_, memWrite_scroll_second v hw, scrollY_toNat _ _⟩, ⟨_, memWrite_address_second v hw, addressLow_toNat _ _⟩⟩

/-- Settles O49. -/
theorem videoData : Obligations.VideoData := by
  intro s d a v'
  refine ⟨fun h => readData_below_eq h, fun h => readData_palette_eq (by omega), ?_⟩
  obtain ⟨hv, hctrl⟩ := ppuWrite_v_ctrl s a d
  change (ppuWrite s a d).withPpu (bumpV (ppuWrite s a d).ppu) = _
  have hstep : BitVec.ofNat 15 ((ppuWrite s a d).ppu.v.toNat +
      if (ppuWrite s a d).ppu.ctrl.getLsbD 2 then 32 else 1) = v' := by rw [hv, hctrl]
  rw [bumpV_eq, hstep]
  rfl

end Sys2Proof.Proofs
end

section
/-! PROOF. What a dot does to the status flags and to the scroll address (R643 to R645, R660 to R664). -/

namespace Sys2Proof.Machine

/-! ## The events of a dot, by field -/

theorem finaliseSprite0_sprite0hit (p : Ppu) :
    (finaliseSprite0 p).sprite0hit = (p.sprite0hit || (p.s0line && !p.s0latched)) := by
  unfold finaliseSprite0
  cases p.s0line <;> cases p.s0latched <;> simp

theorem finaliseSprite0_s0latched (p : Ppu) : (finaliseSprite0 p).s0latched = (p.s0latched || p.s0line) := by
  unfold finaliseSprite0
  cases p.s0line <;> cases p.s0latched <;> simp

/-- Finalisation changes the sprite-0 bookkeeping alone (R663). -/
theorem finaliseSprite0_effect (p : Ppu) : ∃ sh sl,
    finaliseSprite0 p = { p with sprite0hit := sh, s0latched := sl, s0line := false } := by
  unfold finaliseSprite0
  split
  · exact ⟨_, _, rfl⟩
  · exact ⟨p.sprite0hit, p.s0latched, rfl⟩

@[simp] theorem finaliseSprite0_s0line (p : Ppu) : (finaliseSprite0 p).s0line = false := by
  obtain ⟨sh, sl, h⟩ := finaliseSprite0_effect p; rw [h]
@[simp] theorem finaliseSprite0_vblank (p : Ppu) : (finaliseSprite0 p).vblank = p.vblank := by
  obtain ⟨sh, sl, h⟩ := finaliseSprite0_effect p; rw [h]
@[simp] theorem finaliseSprite0_nmiPending (p : Ppu) : (finaliseSprite0 p).nmiPending = p.nmiPending := by
  obtain ⟨sh, sl, h⟩ := finaliseSprite0_effect p; rw [h]
@[simp] theorem finaliseSprite0_ctrl (p : Ppu) : (finaliseSprite0 p).ctrl = p.ctrl := by
  obtain ⟨sh, sl, h⟩ := finaliseSprite0_effect p; rw [h]
@[simp] theorem finaliseSprite0_overflow (p : Ppu) : (finaliseSprite0 p).overflow = p.overflow := by
  obtain ⟨sh, sl, h⟩ := finaliseSprite0_effect p; rw [h]
@[simp] theorem finaliseSprite0_v (p : Ppu) : (finaliseSprite0 p).v = p.v := by
  obtain ⟨sh, sl, h⟩ := finaliseSprite0_effect p; rw [h]
@[simp] theorem finaliseSprite0_t (p : Ppu) : (finaliseSprite0 p).t = p.t := by
  obtain ⟨sh, sl, h⟩ := finaliseSprite0_effect p; rw [h]

section
variable (params : Params) (l d : Nat) (on : Bool) (p : Ppu)

theorem dotEvents_vblank : (dotEvents params l d on p).vblank =
    if l = 261 ∧ d = params.vblankClearDot then false
    else if l = 241 ∧ d = params.vblankSetDot then true else p.vblank := by
  simp [dotEvents, apply_ite Ppu.vblank, startVBlank, clearFrameFlags]

theorem dotEvents_nmiPending : (dotEvents params l d on p).nmiPending =
    if l = 241 ∧ d = params.vblankSetDot then p.nmiPending || p.ctrl.getLsbD 7 else p.nmiPending := by
  simp [dotEvents, apply_ite Ppu.nmiPending, apply_ite Ppu.ctrl, startVBlank, clearFrameFlags, getBit]

theorem dotEvents_overflow : (dotEvents params l d on p).overflow =
    if l = 261 ∧ d = params.vblankClearDot then false else p.overflow := by
  simp [dotEvents, apply_ite Ppu.overflow, startVBlank, clearFrameFlags]

theorem dotEvents_sprite0hit : (dotEvents params l d on p).sprite0hit =
    if l = 261 ∧ d = params.vblankClearDot then false
    else if l ≤ 239 ∧ d = 257 then p.sprite0hit || (p.s0line && !p.s0latched) else p.sprite0hit := by
  simp [dotEvents, apply_ite Ppu.sprite0hit, startVBlank, clearFrameFlags, finaliseSprite0_sprite0hit]

theorem dotEvents_s0latched : (dotEvents params l d on p).s0latched =
    if l = 261 ∧ d = params.vblankClearDot then false
    else if l ≤ 239 ∧ d = 257 then p.s0latched || p.s0line else p.s0latched := by
  simp [dotEvents, apply_ite Ppu.s0latched, startVBlank, clearFrameFlags, finaliseSprite0_s0latched]

theorem dotEvents_s0line : (dotEvents params l d on p).s0line =
    if l = 261 ∧ d = params.vblankClearDot then false
    else if l ≤ 239 ∧ d = 257 then false else p.s0line := by
  simp [dotEvents, apply_ite Ppu.s0line, startVBlank, clearFrameFlags]

/-- The three changes of `v` happen at different dots (R643 to R645). -/
theorem dotEvents_v : (dotEvents params l d on p).v =
    if on = true ∧ l = 261 ∧ 280 ≤ d ∧ d ≤ 304 then copyVertical p.v p.t
    else if on = true ∧ (l ≤ 239 ∨ l = 261) ∧ d = 257 then copyHorizontal p.v p.t
    else if on = true ∧ (l ≤ 239 ∨ l = 261) ∧ d = 256 then incrementY p.v else p.v := by
  simp only [dotEvents, apply_ite Ppu.v, apply_ite Ppu.t, startVBlank, clearFrameFlags, finaliseSprite0_v,
    finaliseSprite0_t, ite_self, Bool.and_eq_true, Bool.or_eq_true, decide_eq_true_eq]
  by_cases h1 : on = true ∧ l = 261 ∧ 280 ≤ d ∧ d ≤ 304
  · obtain ⟨hon, hl, hd, hd'⟩ := h1
    have h256 : d ≠ 256 := by omega
    have h257 : d ≠ 257 := by omega
    simp [hon, hl, hd, hd', h256, h257]
  · have h1' : ¬ (((l = 261 ∧ 280 ≤ d) ∧ d ≤ 304) ∧ on = true) := fun ⟨⟨⟨hl, hd⟩, hd'⟩, hon⟩ => h1 ⟨hon, hl, hd, hd'⟩
    rw [if_neg h1, if_neg h1']
    by_cases h2 : d = 257
    · simp [h2, and_comm]
    · simp only [h2, and_false, if_false]
      exact if_congr (by tauto) rfl rfl

end

/-! ## A dot by field -/

/-- The PPU after a dot without a fault. -/
theorem ppuDot_ppu {s : State} (h : (ppuDot s).fault = none) : (ppuDot s).ppu =
    advanceDot (dotEvents s.params s.ppu.scanline s.ppu.dot (renderingOn s.ppu) (dotPixel s).ppu) := by
  rw [ppuDot_next (dotPixel_fault_of h)]
  rfl

/-- The position advances, nothing else (R641). -/
theorem advanceDot_effect (p : Ppu) : ∃ l d, advanceDot p = { p with scanline := l, dot := d } := by
  unfold advanceDot
  split
  · exact ⟨_, _, rfl⟩
  · exact ⟨p.scanline, _, rfl⟩

/-- Away from the pixels of the visible lines a dot has only its events. -/
theorem dotPixel_idle {s : State} (h : ¬ (s.ppu.scanline ≤ 239 ∧ s.ppu.dot ≤ 255)) : dotPixel s = s := by
  simp only [dotPixel, if_neg h]

section
variable {s : State} (h : (ppuDot s).fault = none)
include h

theorem ppuDot_vblank : (ppuDot s).ppu.vblank =
    if s.ppu.scanline = 261 ∧ s.ppu.dot = s.params.vblankClearDot then false
    else if s.ppu.scanline = 241 ∧ s.ppu.dot = s.params.vblankSetDot then true else s.ppu.vblank := by
  obtain ⟨l, d, hadv⟩ := advanceDot_effect
    (dotEvents s.params s.ppu.scanline s.ppu.dot (renderingOn s.ppu) (dotPixel s).ppu)
  obtain ⟨o, ls, z, fb, f, hpix⟩ := dotPixel_effect s
  rw [ppuDot_ppu h, hadv]
  change (dotEvents _ _ _ _ _).vblank = _
  rw [dotEvents_vblank, hpix]

theorem ppuDot_nmiPending : (ppuDot s).ppu.nmiPending =
    if s.ppu.scanline = 241 ∧ s.ppu.dot = s.params.vblankSetDot then s.ppu.nmiPending || s.ppu.ctrl.getLsbD 7
    else s.ppu.nmiPending := by
  obtain ⟨l, d, hadv⟩ := advanceDot_effect
    (dotEvents s.params s.ppu.scanline s.ppu.dot (renderingOn s.ppu) (dotPixel s).ppu)
  obtain ⟨o, ls, z, fb, f, hpix⟩ := dotPixel_effect s
  rw [ppuDot_ppu h, hadv]
  change (dotEvents _ _ _ _ _).nmiPending = _
  rw [dotEvents_nmiPending, hpix]

theorem ppuDot_v : (ppuDot s).ppu.v =
    if renderingOn s.ppu = true ∧ s.ppu.scanline = 261 ∧ 280 ≤ s.ppu.dot ∧ s.ppu.dot ≤ 304 then
      copyVertical s.ppu.v s.ppu.t
    else if renderingOn s.ppu = true ∧ (s.ppu.scanline ≤ 239 ∨ s.ppu.scanline = 261) ∧ s.ppu.dot = 257 then
      copyHorizontal s.ppu.v s.ppu.t
    else if renderingOn s.ppu = true ∧ (s.ppu.scanline ≤ 239 ∨ s.ppu.scanline = 261) ∧ s.ppu.dot = 256 then
      incrementY s.ppu.v
    else s.ppu.v := by
  obtain ⟨l, d, hadv⟩ := advanceDot_effect
    (dotEvents s.params s.ppu.scanline s.ppu.dot (renderingOn s.ppu) (dotPixel s).ppu)
  obtain ⟨o, ls, z, fb, f, hpix⟩ := dotPixel_effect s
  rw [ppuDot_ppu h, hadv]
  change (dotEvents _ _ _ _ _).v = _
  rw [dotEvents_v, hpix]

/-- Sprite-0 hit and latch: cleared at the clearing dot, taken over from the line at dot 257 (R661, R663). -/
theorem ppuDot_sprite0 : (ppuDot s).ppu.sprite0hit =
      (if s.ppu.scanline = 261 ∧ s.ppu.dot = s.params.vblankClearDot then false
       else if s.ppu.scanline ≤ 239 ∧ s.ppu.dot = 257 then s.ppu.sprite0hit || (s.ppu.s0line && !s.ppu.s0latched)
       else s.ppu.sprite0hit) ∧
    (ppuDot s).ppu.s0latched =
      (if s.ppu.scanline = 261 ∧ s.ppu.dot = s.params.vblankClearDot then false
       else if s.ppu.scanline ≤ 239 ∧ s.ppu.dot = 257 then s.ppu.s0latched || s.ppu.s0line else s.ppu.s0latched) := by
  obtain ⟨l, d, hadv⟩ := advanceDot_effect
    (dotEvents s.params s.ppu.scanline s.ppu.dot (renderingOn s.ppu) (dotPixel s).ppu)
  rw [ppuDot_ppu h, hadv]
  change (dotEvents _ _ _ _ _).sprite0hit = _ ∧ (dotEvents _ _ _ _ _).s0latched = _
  rw [dotEvents_sprite0hit, dotEvents_s0latched]
  by_cases hfinal : s.ppu.scanline ≤ 239 ∧ s.ppu.dot = 257
  · rw [dotPixel_idle (by omega)]
    exact ⟨rfl, rfl⟩
  · obtain ⟨o, ls, z, fb, f, hpix⟩ := dotPixel_effect s
    rw [if_neg hfinal, if_neg hfinal, if_neg hfinal, if_neg hfinal, hpix]
    exact ⟨rfl, rfl⟩

/-- The line's mark is cleared where it is taken over, and with the frame's flags (R661, R663). -/
theorem ppuDot_s0line : (ppuDot s).ppu.s0line =
    if s.ppu.scanline = 261 ∧ s.ppu.dot = s.params.vblankClearDot then false
    else if s.ppu.scanline ≤ 239 ∧ s.ppu.dot = 257 then false else (dotPixel s).ppu.s0line := by
  obtain ⟨l, d, hadv⟩ := advanceDot_effect
    (dotEvents s.params s.ppu.scanline s.ppu.dot (renderingOn s.ppu) (dotPixel s).ppu)
  rw [ppuDot_ppu h, hadv]
  change (dotEvents _ _ _ _ _).s0line = _
  rw [dotEvents_s0line]

theorem ppuDot_overflow_cleared (hstop : s.ppu.scanline = 261 ∧ s.ppu.dot = s.params.vblankClearDot) :
    (ppuDot s).ppu.overflow = false := by
  obtain ⟨l, d, hadv⟩ := advanceDot_effect
    (dotEvents s.params s.ppu.scanline s.ppu.dot (renderingOn s.ppu) (dotPixel s).ppu)
  rw [ppuDot_ppu h, hadv]
  change (dotEvents _ _ _ _ _).overflow = _
  rw [dotEvents_overflow, if_pos hstop]

end

/-! ## Scroll arithmetic -/

variable (v t : BitVec 15)

theorem copyHorizontal_toNat : (copyHorizontal v t).toNat =
    v.toNat / 2048 * 2048 + t.toNat / 1024 % 2 * 1024 + v.toNat / 32 % 32 * 32 + t.toNat % 32 := by
  unfold copyHorizontal
  simp [setField_toNat, getField_toNat]
  omega

theorem copyVertical_toNat : (copyVertical v t).toNat =
    t.toNat / 2048 * 2048 + v.toNat / 1024 % 2 * 1024 + t.toNat / 32 % 32 * 32 + v.toNat % 32 := by
  have := t.isLt
  have := v.isLt
  unfold copyVertical
  simp [setField_toNat, getField_toNat]
  omega

/-- The Y increment (R643): fine Y counts to 7, then coarse Y to 29, switching the nametable; 31 wraps without. -/
theorem incrementY_toNat : (incrementY v).toNat =
    if v.toNat / 4096 < 7 then v.toNat + 4096
    else if v.toNat / 32 % 32 = 29 then
      v.toNat % 1024 - v.toNat / 32 % 32 * 32 + v.toNat / 1024 % 2 * 1024 + (1 - v.toNat / 2048 % 2) * 2048
    else if v.toNat / 32 % 32 = 31 then v.toNat % 4096 - 31 * 32
    else v.toNat % 4096 + 32 := by
  have hlt := v.isLt
  have hfine : (getField v 12 3).toNat = v.toNat / 4096 := by
    rw [getField_toNat]
    omega
  have hcoarse : (getField v 5 5).toNat = v.toNat / 32 % 32 := by simp [getField_toNat]
  unfold incrementY
  simp only [hfine, hcoarse]
  by_cases h7 : v.toNat / 4096 < 7
  · rw [if_pos h7, if_pos h7]
    simp [setField_toNat, hfine]
    omega
  rw [if_neg h7, if_neg h7]
  by_cases h29 : v.toNat / 32 % 32 = 29
  · rw [if_pos h29, if_pos h29]
    simp [setField_toNat, getField_toNat]
    omega
  rw [if_neg h29, if_neg h29]
  by_cases h31 : v.toNat / 32 % 32 = 31
  · rw [if_pos h31, if_pos h31]
    simp [setField_toNat]
    omega
  rw [if_neg h31, if_neg h31]
  simp [setField_toNat, hcoarse]
  omega

theorem renderingOn_iff (p : Ppu) : renderingOn p = true ↔ p.mask.getLsbD 3 = true ∨ p.mask.getLsbD 4 = true := by
  simp [renderingOn, getBit]

end Sys2Proof.Machine

namespace Sys2Proof.Proofs

open Sys2Proof.Machine

/-- Settles O51. -/
theorem vBlankDots : Obligations.VBlankDots := by
  intro s hf start stop final
  have hvblank := ppuDot_vblank hf
  have hnmi := ppuDot_nmiPending hf
  obtain ⟨hhit, hlatch⟩ := ppuDot_sprite0 hf
  have hline := ppuDot_s0line hf
  refine ⟨fun h => ?start, fun h => ?stop, fun h => ?other, fun h => ?final, fun h h' => ?rest⟩
  case start =>
    have hstop : ¬ stop := fun h' => by
      have := h.1.symm.trans h'.1
      omega
    exact ⟨hvblank.trans ((if_neg hstop).trans (if_pos h)), hnmi.trans (if_pos h)⟩
  case stop =>
    exact ⟨hvblank.trans (if_pos h), hhit.trans (if_pos h), ppuDot_overflow_cleared hf h, hlatch.trans (if_pos h),
      hline.trans (if_pos h)⟩
  case other =>
    exact ⟨hnmi.trans (if_neg h), fun h' => hvblank.trans ((if_neg h').trans (if_neg h))⟩
  case final =>
    have hstop : ¬ stop := fun h' => by
      have := h.1
      have := h'.1
      omega
    exact ⟨hhit.trans ((if_neg hstop).trans (if_pos h)), hlatch.trans ((if_neg hstop).trans (if_pos h)),
      hline.trans ((if_neg hstop).trans (if_pos h))⟩
  case rest =>
    exact ⟨hhit.trans ((if_neg h').trans (if_neg h)), hlatch.trans ((if_neg h').trans (if_neg h))⟩

/-- Settles O52. -/
theorem scrollDots : Obligations.ScrollDots := by
  intro s hf on line v t v'
  have hv := congrArg BitVec.toNat (ppuDot_v hf)
  have hon : renderingOn s.ppu = true ↔ on := renderingOn_iff s.ppu
  refine ⟨fun h hl hd => ?incrementY, fun h hl hd => ?horizontal, fun h hl hd hd' => ?vertical, fun h => ?rest⟩
  case incrementY =>
    rw [if_neg (by omega), if_neg (by omega), if_pos ⟨hon.mpr h, hl, hd⟩, incrementY_toNat] at hv
    exact hv
  case horizontal =>
    rw [if_neg (by omega), if_pos ⟨hon.mpr h, hl, hd⟩, copyHorizontal_toNat] at hv
    exact hv
  case vertical =>
    rw [if_pos ⟨hon.mpr h, hl, hd, hd'⟩, copyVertical_toNat] at hv
    exact hv
  case rest =>
    have hidle : ∀ P : Prop, (P → ¬ line ∨ (s.ppu.dot ≠ 256 ∧ s.ppu.dot ≠ 257 ∧
        ¬ (s.ppu.scanline = 261 ∧ 280 ≤ s.ppu.dot ∧ s.ppu.dot ≤ 304)) → False) → ¬ (renderingOn s.ppu = true ∧ P) :=
      fun P hP hcon => h.elim (fun hoff => hoff (hon.mp hcon.1)) (hP hcon.2)
    rw [if_neg (hidle _ fun hp hor => ?_), if_neg (hidle _ fun hp hor => ?_), if_neg (hidle _ fun hp hor => ?_)] at hv
    · exact hv
    · omega
    · omega
    · omega

end Sys2Proof.Proofs
end

section
/-! PROOF. Sprites and pixels (R614, R650 to R655, R662, R666, R667). -/

namespace Sys2Proof.Machine

variable (s : State) (p : Ppu) (l d : Nat)

/-! ## Evaluation -/

/-- The scan collects the first eight of the entries on the line and reports a ninth (R650). -/
theorem scanSprites_eq {entries found : List Nat} (h : found.length ≤ 8) : scanSprites p l entries found =
    ((found ++ entries.filter (spriteOnLine p l)).take 8,
      decide (9 ≤ found.length + (entries.filter (spriteOnLine p l)).length)) := by
  induction entries generalizing found with
  | nil =>
    have h9 : ¬ 9 ≤ found.length := by omega
    simp [scanSprites, List.take_of_length_le h, h9]
  | cons i rest ih =>
    rw [scanSprites]
    by_cases hi : spriteOnLine p l i = true
    · rw [if_pos hi, List.filter_cons_of_pos hi]
      by_cases hlt : found.length < 8
      · rw [if_pos hlt, ih (by simpa using hlt)]
        simp only [List.append_assoc, List.singleton_append, List.length_append, List.length_cons, List.length_nil]
        congr 2
        exact propext (by omega)
      · have h8 : found.length = 8 := by omega
        rw [if_neg hlt, List.take_append_of_le_length (by omega), List.take_of_length_le h, List.length_cons]
        have h9 : 9 ≤ found.length + ((rest.filter (spriteOnLine p l)).length + 1) := by omega
        rw [decide_eq_true h9]
    · rw [if_neg hi, List.filter_cons_of_neg hi, ih h]

theorem evaluateSprites_on (h : renderingOn p = true) : evaluateSprites p l =
    { p with lineSprites := ((List.range 64).filter (spriteOnLine p l)).take 8
             overflow := p.overflow || decide (9 ≤ ((List.range 64).filter (spriteOnLine p l)).length) } := by
  simp only [evaluateSprites, if_pos h, scanSprites_eq p l (found := []) (Nat.zero_le 8), List.nil_append,
    List.length_nil, Nat.zero_add]

theorem evaluateSprites_off (h : ¬ renderingOn p = true) : evaluateSprites p l = { p with lineSprites := [] } := by
  simp only [evaluateSprites, if_neg h]

/-! ## Colours -/

theorem spriteColour_outside {i : Nat} (h : d < (oamByte s.ppu i 3).toNat ∨ (oamByte s.ppu i 3).toNat + 8 ≤ d) :
    spriteColour s i l d = 0 := by
  have hcol : ¬ ((oamByte s.ppu i 3).toNat ≤ d ∧ d < (oamByte s.ppu i 3).toNat + 8) := by omega
  simp only [spriteColour, if_neg hcol]

/-- A pattern address below the address space is its own residue. -/
theorem patternAddress {base row : Nat} (h : base + row < 0x4000) :
    (((base : Int) + (row : Int)).emod 0x4000).toNat = base + row := by
  have hsum : (base : Int) + (row : Int) = ((base + row : Nat) : Int) := by omega
  rw [hsum]
  change (((base + row : Nat) : Int) % ((0x4000 : Nat) : Int)).toNat = _
  rw [← Int.natCast_mod, Int.toNat_natCast, Nat.mod_eq_of_lt h]

/-- The row of sprite `i` that line `l` shows, counted from its top after the vertical flip. -/
def spriteRow (p : Ppu) (i l : Nat) : Nat :=
  if (oamByte p i 2).toNat / 128 % 2 = 1 then spriteHeight p - 1 - (l - (oamByte p i 0).toNat)
  else l - (oamByte p i 0).toNat

/-- The tile that row lies in: of a sprite of two tiles, its number even for the upper half. -/
def spriteTile (p : Ppu) (i l : Nat) : Nat :=
  if spriteHeight p = 16 then (oamByte p i 1).toNat / 2 * 2 + spriteRow p i l / 8 else (oamByte p i 1).toNat

/-- The pattern table of a sprite (R652). -/
def spriteTable (p : Ppu) (i : Nat) : Nat :=
  if spriteHeight p = 16 then (oamByte p i 1).toNat % 2 * 0x1000 else if p.ctrl.getLsbD 3 = true then 0x1000 else 0

theorem spriteHeight_eq : spriteHeight p = 8 ∨ spriteHeight p = 16 := by
  unfold spriteHeight
  split
  · exact .inr rfl
  · exact .inl rfl

variable {s p l d} {i : Nat}

section
variable (hy : (oamByte p i 0).toNat ≤ l) (hy' : l < (oamByte p i 0).toNat + spriteHeight p)
include hy hy'

/-- The integer row of the model is the row of the sprite. -/
theorem spriteRow_cast : (if getBit (oamByte p i 2) 7 = true then
    ((spriteHeight p : Nat) : Int) - 1 - ((l : Int) - ((oamByte p i 0).toNat : Int))
    else (l : Int) - ((oamByte p i 0).toNat : Int)) = ((spriteRow p i l : Nat) : Int) := by
  have hflip : getBit (oamByte p i 2) 7 = true ↔ (oamByte p i 2).toNat / 128 % 2 = 1 := by simp [getBit_eq_div_mod]
  rw [if_congr hflip rfl rfl, spriteRow]
  split <;> omega

theorem spriteRow_lt : spriteRow p i l < spriteHeight p := by
  unfold spriteRow
  split <;> omega

/-- The lower tile of a sprite of two is the one of its rows from 8 on. -/
theorem spriteTile_lower : (if decide (spriteHeight p = 16) = true then
    (oamByte p i 1).toNat / 2 * 2 + bitNat (decide (spriteHeight p = 16) && decide (((spriteRow p i l : Nat) : Int) ≥ 8))
    else (oamByte p i 1).toNat) = spriteTile p i l := by
  have hlt := spriteRow_lt hy hy'
  unfold spriteTile
  by_cases h : spriteHeight p = 16
  · by_cases h8 : 8 ≤ spriteRow p i l
    · have hdiv : spriteRow p i l / 8 = 1 := by omega
      have hint : ((spriteRow p i l : Nat) : Int) ≥ 8 := by omega
      simp [h, hdiv, hint, bitNat]
    · have hdiv : spriteRow p i l / 8 = 0 := by omega
      have hint : ¬ ((spriteRow p i l : Nat) : Int) ≥ 8 := by omega
      simp [h, hdiv, hint, bitNat]
  · simp [h]

/-- The row within its tile. -/
theorem spriteRow_lower : (if (decide (spriteHeight p = 16) && decide (((spriteRow p i l : Nat) : Int) ≥ 8)) = true then
    ((spriteRow p i l : Nat) : Int) - 8 else ((spriteRow p i l : Nat) : Int)) = ((spriteRow p i l % 8 : Nat) : Int) := by
  have hlt := spriteRow_lt hy hy'
  have hcond : (decide (spriteHeight p = 16) && decide (((spriteRow p i l : Nat) : Int) ≥ 8)) = true ↔
      8 ≤ spriteRow p i l := by
    rw [Bool.and_eq_true, decide_eq_true_eq, decide_eq_true_eq]
    rcases spriteHeight_eq p with h | h <;> omega
  rw [if_congr hcond rfl rfl]
  rcases spriteHeight_eq p with h | h
  · rw [if_neg (by omega)]
    omega
  · split <;> omega

/-- The address of a sprite's row is inside pattern space. -/
theorem spriteAddress_lt : spriteTable p i + 16 * spriteTile p i l + spriteRow p i l % 8 < 0x4000 := by
  have hrow := spriteRow_lt hy hy'
  have hbyte := (oamByte p i 1).isLt
  have htable : spriteTable p i ≤ 0x1000 := by
    unfold spriteTable
    split
    · omega
    · split <;> omega
  have htile : spriteTile p i l ≤ 255 := by
    unfold spriteTile
    split <;> omega
  omega

end

theorem spriteTable_eq : (if decide (spriteHeight p = 16) = true then (oamByte p i 1).toNat % 2 * 0x1000
    else if getBit p.ctrl 3 = true then 0x1000 else 0) = spriteTable p i :=
  if_congr decide_eq_true_iff rfl rfl

/-- The bit of the planes that a column shows, after the horizontal flip. -/
theorem spriteColumn {k : Nat} (v : Byte) (hk : k < 8) : 7 - (if getBit v 6 = true then 7 - k else k) =
    if v.toNat / 64 % 2 = 1 then k else 7 - k := by
  have hflip : getBit v 6 = true ↔ v.toNat / 64 % 2 = 1 := by simp [getBit_eq_div_mod]
  rw [if_congr hflip rfl rfl]
  split <;> omega

/-- A sprite's colour in its columns, on a line its rows cover (R614, R651, R652). -/
theorem spriteColour_inside (hx : (oamByte s.ppu i 3).toNat ≤ d) (hx' : d < (oamByte s.ppu i 3).toNat + 8)
    (hy : (oamByte s.ppu i 0).toNat ≤ l) (hy' : l < (oamByte s.ppu i 0).toNat + spriteHeight s.ppu) :
    spriteColour s i l d =
      planeColour (ppuRead s (spriteTable s.ppu i + 16 * spriteTile s.ppu i l + spriteRow s.ppu i l % 8))
        (ppuRead s (spriteTable s.ppu i + 16 * spriteTile s.ppu i l + spriteRow s.ppu i l % 8 + 8))
        (if (oamByte s.ppu i 2).toNat / 64 % 2 = 1 then d - (oamByte s.ppu i 3).toNat
         else 7 - (d - (oamByte s.ppu i 3).toNat)) := by
  simp only [spriteColour, if_pos (And.intro hx hx'), spriteRow_cast hy hy', spriteTile_lower hy hy',
    spriteRow_lower hy hy', spriteTable_eq, spriteColumn _ (show d - (oamByte s.ppu i 3).toNat < 8 by omega),
    patternAddress (spriteAddress_lt hy hy')]

/-! ## The sprite pixel -/

theorem firstSprite_none {list : List Nat} (h : ∀ j ∈ list, spriteColour s j l d = 0) :
    firstSprite s l d list = (0, 0, false) := by
  induction list with
  | nil => rfl
  | cons j rest ih =>
    have hj : ¬ spriteColour s j l d ≠ 0 := fun hne => hne (h j (List.mem_cons_self ..))
    simp only [firstSprite, if_neg hj]
    exact ih fun k hk => h k (List.mem_cons_of_mem _ hk)

/-- Sprites without a colour are passed over (R653). -/
theorem firstSprite_append {before list : List Nat} (h : ∀ j ∈ before, spriteColour s j l d = 0) :
    firstSprite s l d (before ++ list) = firstSprite s l d list := by
  induction before with
  | nil => rfl
  | cons j rest ih =>
    have hj : ¬ spriteColour s j l d ≠ 0 := fun hne => hne (h j (List.mem_cons_self ..))
    rw [List.cons_append]
    simp only [firstSprite, if_neg hj]
    exact ih fun k hk => h k (List.mem_cons_of_mem _ hk)

theorem firstSprite_cons {rest : List Nat} (h : spriteColour s i l d ≠ 0) : firstSprite s l d (i :: rest) =
    (spriteColour s i l d, (oamByte s.ppu i 2).toNat % 4, decide ((oamByte s.ppu i 2).toNat / 32 % 2 = 1)) := by
  simp only [firstSprite, if_pos h, getField_toNat, getBit_eq_div_mod]
  rw [Nat.pow_zero, Nat.div_one]
  rfl

theorem spritesShown_iff : spritesShown p d = true ↔ p.mask.getLsbD 4 = true ∧ (8 ≤ d ∨ p.mask.getLsbD 2 = true) := by
  simp [spritesShown, getBit]

theorem spritePixel_hidden (h : ¬ spritesShown s.ppu d = true) : spritePixel s l d = (0, 0, false) := by
  simp only [spritePixel, if_neg h]

theorem spritePixel_shown (h : spritesShown s.ppu d = true) :
    spritePixel s l d = firstSprite s l d s.ppu.lineSprites := by
  simp only [spritePixel, if_pos h]

end Sys2Proof.Machine

namespace Sys2Proof.Proofs

open Sys2Proof.Machine

/-- Settles O53. -/
theorem spriteEvaluation : Obligations.SpriteEvaluation := by
  intro s i l d p on h hits y tile attr x shown
  have hon : renderingOn p = true ↔ on := renderingOn_iff p
  have hshown : spritesShown p d = true ↔ shown := spritesShown_iff
  have hits_eq : (List.range 64).filter (spriteOnLine p l) = hits :=
    List.filter_congr fun j _ => (Bool.decide_and _ _).symm
  refine ⟨fun ho => ?on, fun ho => evaluateSprites_off p l (fun h' => ho (hon.mp h')), spriteColour_outside s l d,
    fun hx hx' hy hy' => spriteColour_inside hx hx' hy hy', fun hs => ?hidden, fun hs hc => ?none,
    fun hs before rest hlist hbefore hi => ?first⟩
  case on =>
    rw [evaluateSprites_on p l (hon.mpr ho), hits_eq]
  case hidden => rw [spritePixel_hidden (fun h' => hs (hshown.mp h'))]
  case none => rw [spritePixel_shown (hshown.mpr hs), firstSprite_none hc]
  case first =>
    rw [spritePixel_shown (hshown.mpr hs), hlist, firstSprite_append hbefore, firstSprite_cons hi]
    rfl

end Sys2Proof.Proofs
end

section
/-! PROOF. The background, the multiplexer and the pixel (R655, R662, R666, R667). -/

namespace Sys2Proof.Machine

variable {s : State} {p : Ppu} {l d : Nat}

/-! ## The background -/

theorem backgroundShown_iff : (getBit p.mask 3 && !(decide (d < 8) && !getBit p.mask 1)) = true ↔
    p.mask.getLsbD 3 = true ∧ (8 ≤ d ∨ p.mask.getLsbD 1 = true) := by
  simp [getBit]

theorem bgColour_hidden (h : ¬ (s.ppu.mask.getLsbD 3 = true ∧ (8 ≤ d ∨ s.ppu.mask.getLsbD 1 = true))) :
    bgColour s d = (0, 0) := by
  simp only [bgColour, if_neg (mt backgroundShown_iff.mp h)]

/-- The coarse column of the tile at dot `d`, before it wraps into the next nametable (R655). -/
def bgColumn (p : Ppu) (d : Nat) : Nat := p.v.toNat % 32 + (p.x.toNat + d) / 8

/-- The nametable of that tile (R655). -/
def bgPage (p : Ppu) (d : Nat) : Nat :=
  0x2000 + p.v.toNat / 2048 % 2 * 0x800 + (p.v.toNat / 1024 + bgColumn p d / 32) % 2 * 0x400

theorem bgPage_eq : 0x2000 + p.v.toNat / 2048 % 2 * 0x800 +
    (p.v.toNat / 1024 % 2 + bgColumn p d / 32) % 2 * 0x400 = bgPage p d := by
  unfold bgPage
  omega

/-- A shown background's palette and colour, with the fields of `v` as numbers (R655). -/
theorem bgColour_shown (h : s.ppu.mask.getLsbD 3 = true ∧ (8 ≤ d ∨ s.ppu.mask.getLsbD 1 = true)) :
    bgColour s d =
      ((ppuRead s (bgPage s.ppu d + 0x3C0 + 8 * (s.ppu.v.toNat / 32 % 32 / 4) + bgColumn s.ppu d % 32 / 4)).toNat /
          2 ^ (s.ppu.v.toNat / 32 % 32 / 2 % 2 * 4 + bgColumn s.ppu d % 32 / 2 % 2 * 2) % 4,
        planeColour
          (ppuRead s ((if s.ppu.ctrl.getLsbD 4 = true then 0x1000 else 0) +
            16 * (ppuRead s (bgPage s.ppu d + 32 * (s.ppu.v.toNat / 32 % 32) + bgColumn s.ppu d % 32)).toNat +
            s.ppu.v.toNat / 4096))
          (ppuRead s ((if s.ppu.ctrl.getLsbD 4 = true then 0x1000 else 0) +
            16 * (ppuRead s (bgPage s.ppu d + 32 * (s.ppu.v.toNat / 32 % 32) + bgColumn s.ppu d % 32)).toNat +
            s.ppu.v.toNat / 4096 + 8))
          (7 - (s.ppu.x.toNat + d) % 8)) := by
  have hv := s.ppu.v.isLt
  have hcx : (getField s.ppu.v 0 5).toNat = s.ppu.v.toNat % 32 := by simp [getField_toNat]
  have hntx : (getField s.ppu.v 10 1).toNat = s.ppu.v.toNat / 1024 % 2 := by simp [getField_toNat]
  have hcy : (getField s.ppu.v 5 5).toNat = s.ppu.v.toNat / 32 % 32 := by simp [getField_toNat]
  have hnty : (getField s.ppu.v 11 1).toNat = s.ppu.v.toNat / 2048 % 2 := by simp [getField_toNat]
  have hfy : (getField s.ppu.v 12 3).toNat = s.ppu.v.toNat / 4096 := by
    rw [getField_toNat]
    omega
  have hcolumn : s.ppu.v.toNat % 32 + (s.ppu.x.toNat + d) / 8 = bgColumn s.ppu d := rfl
  simp only [bgColour, if_pos (backgroundShown_iff.mpr h)]
  simp only [hcx, hntx, hcy, hnty, hfy, hcolumn, bgPage_eq, getBit, Nat.mul_comm _ 32, Nat.mul_comm _ 8]
  rfl

/-! ## The pixel -/

/-- The multiplexer's entry as the obligation writes it (R666). -/
theorem paletteEntry_eq (bp bc sc sp : Nat) (behind : Bool) : paletteEntry bp bc sc sp behind =
    if bc = 0 ∧ sc = 0 then 0
    else if bc = 0 ∨ (sc ≠ 0 ∧ behind = false) then 16 + 4 * sp + sc else 4 * bp + bc := by
  unfold paletteEntry
  by_cases hbc : bc = 0 <;> by_cases hsc : sc = 0 <;> cases behind <;> simp [hbc, hsc] <;> omega

/-- With rendering off neither the background nor a sprite has a colour (R667). -/
theorem colours_off (h : ¬ renderingOn s.ppu = true) (l d : Nat) : bgColour s d = (0, 0) ∧ spritePixel s l d = (0, 0, false) := by
  rw [renderingOn_iff] at h
  exact ⟨bgColour_hidden fun h' => h (.inl h'.1), spritePixel_hidden fun h' => h (.inr (spritesShown_iff.mp h').1)⟩

/-- The composed entry is the multiplexer's, with rendering off as well (R666, R667). -/
theorem composeEntry_entry (s : State) (l d : Nat) : (composeEntry s l d).1 =
    paletteEntry (bgColour s d).1 (bgColour s d).2 (spritePixel s l d).1 (spritePixel s l d).2.1
      (spritePixel s l d).2.2 := by
  by_cases h : renderingOn s.ppu = true
  · simp only [composeEntry, if_pos h]
  · obtain ⟨hbg, hsp⟩ := colours_off h l d
    simp only [composeEntry, if_neg h, hbg, hsp]
    rfl

theorem sprite0Overlap_iff (s : State) (l d bc : Nat) : sprite0Overlap s l d bc = true ↔
    s.ppu.lineSprites.head? = some 0 ∧ spritesShown s.ppu d = true ∧ spriteColour s 0 l d ≠ 0 ∧ bc ≠ 0 := by
  unfold sprite0Overlap
  split
  · next rest hlist => simp [hlist, and_assoc]
  · next hlist =>
    have hhead : s.ppu.lineSprites.head? ≠ some 0 := by
      intro h
      obtain ⟨rest, hrest⟩ := List.head?_eq_some_iff.mp h
      exact hlist rest hrest
    simp [hhead]

/-- The line's mark after the composition of a pixel (R662). -/
theorem composeEntry_mark (s : State) (l d : Nat) : (composeEntry s l d).2 = (s.ppu.s0line ||
    decide (s.ppu.lineSprites.head? = some 0 ∧ (s.ppu.mask.getLsbD 4 = true ∧ (8 ≤ d ∨ s.ppu.mask.getLsbD 2 = true)) ∧
      spriteColour s 0 l d ≠ 0 ∧ (bgColour s d).2 ≠ 0)) := by
  by_cases h : renderingOn s.ppu = true
  · simp only [composeEntry, if_pos h]
    congr 1
    rw [Bool.eq_iff_iff, decide_eq_true_iff, sprite0Overlap_iff, spritesShown_iff]
  · have hoff : s.ppu.mask.getLsbD 4 = false := by
      rw [renderingOn_iff] at h
      simpa using fun h4 => h (.inr h4)
    simp only [composeEntry, if_neg h, hoff]
    simp

/-- The colour byte of a composed pixel is that of the entry itself (R613). -/
theorem composeColour_eq (s : State) (l d : Nat) : cellRead s.ppu.pal (palIndex (0x3F00 + (composeEntry s l d).1)) =
    cellRead s.ppu.pal (composeEntry s l d).1 := by
  obtain ⟨hbp, hbc⟩ := bgColour_lt s d
  obtain ⟨hsc, hsp⟩ := spritePixel_lt s l d
  rw [composeEntry_entry, palIndex_paletteEntry _ hbp hbc hsc hsp]

/-- A colour byte of $40 or more stops the pixel (R666, R504). -/
theorem composePixel_fault (h : 64 ≤ (cellRead s.ppu.pal (composeEntry s l d).1).toNat) : composePixel s l d =
    { s with
      ppu := { s.ppu with s0line := (composeEntry s l d).2 }
      fault := some (.invalidColorIndex (cellRead s.ppu.pal (composeEntry s l d).1) l d) } := by
  rw [← composeColour_eq] at h ⊢
  exact if_pos h

/-- The grey of a colour (R621). -/
theorem grey_eq {k : Byte} (h : k.toNat < 64) (grey : Bool) : (if grey = true then k &&& 0x30 else k).setWidth 6 =
    BitVec.ofNat 6 (if grey = true then k.toNat / 16 * 16 else k.toNat) := by
  revert k grey
  decide

/-- Any other colour byte is drawn (R666). -/
theorem composePixel_drawn (h : (cellRead s.ppu.pal (composeEntry s l d).1).toNat < 64) : composePixel s l d =
    { s with ppu := { s.ppu with
      s0line := (composeEntry s l d).2
      fb := cellWrite s.ppu.fb (256 * l + d) (BitVec.ofNat 6 (if s.ppu.mask.getLsbD 0 = true then
        (cellRead s.ppu.pal (composeEntry s l d).1).toNat / 16 * 16
        else (cellRead s.ppu.pal (composeEntry s l d).1).toNat)) } } := by
  rw [← grey_eq h]
  have hnot : ¬ (cellRead s.ppu.pal (palIndex (0x3F00 + (composeEntry s l d).1))).toNat ≥ 0x40 := by
    rw [composeColour_eq]
    omega
  rw [← composeColour_eq]
  exact if_neg hnot

/-! ## The visible dot -/

/-- The state in which the pixel of a dot is composed: behind the line's evaluation at dot 0 (R640). -/
def evaluated (s : State) : State :=
  if s.ppu.dot = 0 then { s with ppu := evaluateSprites s.ppu s.ppu.scanline } else s

theorem dotPixel_visible (hl : s.ppu.scanline ≤ 239) (hd : s.ppu.dot ≤ 255) :
    dotPixel s = composePixel (evaluated s) s.ppu.scanline s.ppu.dot := by
  simp only [dotPixel, if_pos (And.intro hl hd)]
  rfl

/-- Evaluation touches the list and the overflow flag alone. -/
theorem evaluated_effect (s : State) : ∃ o ls,
    evaluated s = { s with ppu := { s.ppu with overflow := o, lineSprites := ls } } := by
  unfold evaluated
  split
  · obtain ⟨o, ls, h⟩ := evaluateSprites_effect s.ppu s.ppu.scanline
    exact ⟨o, ls, by rw [h]⟩
  · exact ⟨s.ppu.overflow, s.ppu.lineSprites, rfl⟩

/-- The framebuffer after a dot without a fault is that of its pixel. -/
theorem ppuDot_framebuffer (h : (ppuDot s).fault = none) : (ppuDot s).ppu.fb = (dotPixel s).ppu.fb := by
  obtain ⟨l, d, hadv⟩ := advanceDot_effect
    (dotEvents s.params s.ppu.scanline s.ppu.dot (renderingOn s.ppu) (dotPixel s).ppu)
  obtain ⟨vb, sh, o, v, n, sl, z, hev⟩ :=
    dotEvents_effect s.params s.ppu.scanline s.ppu.dot (renderingOn s.ppu) (dotPixel s).ppu
  rw [ppuDot_ppu h, hadv, hev]

theorem ppuDot_fault_none (h : (dotPixel s).fault = none) : (ppuDot s).fault = none := by
  rw [ppuDot_next h]
  exact h

end Sys2Proof.Machine

namespace Sys2Proof.Proofs

open Sys2Proof.Machine

/-- Settles O54. -/
theorem backdropAndColourFault : Obligations.BackdropAndColourFault := by
  intro s
  refine ⟨fun d => ?background, fun hf hl hd => ?pixel⟩
  case background => exact ⟨bgColour_hidden, bgColour_shown⟩
  case pixel =>
    intro l d s' bg sp e k shown
    have hs' : evaluated s = s' := rfl
    obtain ⟨o, ls, heff⟩ := evaluated_effect s
    have he : (composeEntry s' l d).1 = e := (composeEntry_entry s' l d).trans (paletteEntry_eq ..)
    obtain ⟨hpal, hmask, hline⟩ : s'.ppu.pal = s.ppu.pal ∧ s'.ppu.mask = s.ppu.mask ∧ s'.ppu.s0line = s.ppu.s0line := by
      rw [← hs', heff]
      exact ⟨rfl, rfl, rfl⟩
    have hk : cellRead s'.ppu.pal (composeEntry s' l d).1 = k := by rw [he, hpal]
    have hpixel : dotPixel s = composePixel s' l d := dotPixel_visible hl hd
    refine ⟨fun h3 h4 => ?off, fun hbad => ?bad, fun hgood => ?good⟩
    case off =>
      obtain ⟨hbg, hsp⟩ := colours_off (s := s') (by rw [renderingOn_iff, hmask, h3, h4]; simp) l d
      have : e = 0 := if_pos ⟨congrArg Prod.snd hbg, congrArg Prod.fst hsp⟩
      rw [← this]
    case bad =>
      rw [composePixel_fault (hk ▸ hbad), hk] at hpixel
      rw [ppuDot_stopped (congrArg State.fault hpixel), hpixel, ← hs', heff]
      exact ⟨rfl, rfl, rfl⟩
    case good =>
      rw [composePixel_drawn (hk ▸ hgood), hk] at hpixel
      have hfault : (dotPixel s).fault = none := by
        rw [hpixel, ← hs', heff]
        exact hf
      have hdot := ppuDot_fault_none hfault
      refine ⟨hdot, fun n => ?_, ?_⟩
      · rw [ppuDot_framebuffer hdot, hpixel, ← hs', heff]
        exact cellRead_write ..
      · have hmark : (ppuDot s).ppu.s0line = (composeEntry s' l d).2 := by
          rw [ppuDot_s0line hdot, if_neg (by omega), if_neg (by omega), hpixel]
        rw [hmark, composeEntry_mark, hline, hmask]

end Sys2Proof.Proofs
end

section
/-! PROOF. OAM DMA and the joypad's serial port (R801, R802, R810). -/

namespace Sys2Proof.Machine

/-! ## OAM DMA -/

/-- The state after the first `n` copies of page `page`, each at the state the ones before left (R810). -/
def dmaState (s : State) (page : Byte) : Nat → State
  | 0 => s
  | i + 1 =>
    let r := memRead (BitVec.ofNat 16 (256 * page.toNat + i)) (dmaState s page i)
    { r.2 with ppu := { r.2.ppu with oam := cellWrite r.2.ppu.oam ((s.ppu.oamaddr.toNat + i) % 256) r.1 } }

/-- The address of byte `i` of a page. -/
theorem wordOf_page (page : Byte) {i : Nat} (h : i < 256) :
    wordOf (BitVec.ofNat 8 i) page = BitVec.ofNat 16 (256 * page.toNat + i) := by
  have := page.isLt
  apply BitVec.eq_of_toNat_eq
  rw [wordOf_toNat, BitVec.toNat_ofNat, BitVec.toNat_ofNat]
  omega

variable (s : State) (page : Byte)

theorem memRead_oamaddr (a : Word) : (memRead a s).2.ppu.oamaddr = s.ppu.oamaddr := by
  obtain ⟨vb, w, buf, v, irq, pos, h⟩ := memRead_effect a s
  rw [h]

theorem dmaState_oamaddr (n : Nat) : (dmaState s page n).ppu.oamaddr = s.ppu.oamaddr := by
  induction n with
  | zero => rfl
  | succ n ih => exact (memRead_oamaddr _ _).trans ih

theorem dmaState_cycles_params (n : Nat) :
    (dmaState s page n).cycles = s.cycles ∧ (dmaState s page n).params = s.params := by
  induction n with
  | zero => exact ⟨rfl, rfl⟩
  | succ n ih => exact ⟨(memRead_cycles _ _).trans ih.1, (memRead_params _ _).trans ih.2⟩

/-- The copies still to come go on from the state of the ones done. -/
theorem oamDmaCopy_dmaState {n i : Nat} (h : n + i = 256) :
    oamDmaCopy page n (dmaState s page i) = dmaState s page 256 := by
  induction n generalizing i with
  | zero =>
    have hi : i = 256 := by omega
    rw [hi, oamDmaCopy]
  | succ n ih =>
    have hi : 255 - n = i := by omega
    have hstep : oamDmaCopy page (n + 1) (dmaState s page i) = oamDmaCopy page n (dmaState s page (i + 1)) := by
      rw [oamDmaCopy, dmaState]
      simp only [hi, wordOf_page page (show i < 256 by omega), memRead_oamaddr, dmaState_oamaddr]
      rfl
    rw [hstep, ih (by omega)]

theorem memWrite_oamDma : memWrite 0x4014 page s =
    { dmaState s page 256 with cycles := s.cycles + s.params.oamDmaCycles } := by
  have hport : memWrite 0x4014 page s = oamDma s page := rfl
  have hcopy : oamDmaCopy page 256 s = dmaState s page 256 := oamDmaCopy_dmaState s page (i := 0) rfl
  obtain ⟨hcycles, hparams⟩ := dmaState_cycles_params s page 256
  rw [hport, oamDma, hcopy]
  generalize dmaState s page 256 = t at hcycles hparams
  change t.withCycles (t.cycles + t.params.oamDmaCycles) = t.withCycles (s.cycles + s.params.oamDmaCycles)
  rw [hcycles, hparams]

/-- Work RAM and everything from $4020 on has no port (R101). -/
theorem isPort_of_region {a : Word} (h : a.toNat ≤ 0x1FFF ∨ 0x4020 ≤ a.toNat) : isPort a = false := by
  unfold isPort
  rcases h with h | h
  · rw [target_ram h]
  · by_cases h' : a.toNat ≤ 0x7FFF
    · rw [target_cartLow h h']
    · rw [target_rom (by omega)]

/-- A page below $2000 or from $4100 on has no port (R101). -/
theorem isPort_page {page : Byte} (h : page.toNat < 0x20 ∨ 0x41 ≤ page.toNat) {i : Nat} (hi : i < 256) :
    isPort (BitVec.ofNat 16 (256 * page.toNat + i)) = false := by
  have := page.isLt
  apply isPort_of_region
  rw [BitVec.toNat_ofNat, Nat.mod_eq_of_lt (by omega)]
  omega

/-- The copies of a page without ports change OAM alone, and each lands in its place (R811). -/
theorem dmaState_noPort (h : page.toNat < 0x20 ∨ 0x41 ≤ page.toNat) {n : Nat} (hn : n ≤ 256) :
    ∃ oam, dmaState s page n = { s with ppu := { s.ppu with oam := oam } } ∧
      ∀ i, i < n → cellRead oam ((s.ppu.oamaddr.toNat + i) % 256) =
        peek s (BitVec.ofNat 16 (256 * page.toNat + i)) := by
  induction n with
  | zero => exact ⟨s.ppu.oam, rfl, fun i hi => absurd hi (Nat.not_lt_zero i)⟩
  | succ n ih =>
    obtain ⟨oam, hstate, hbytes⟩ := ih (by omega)
    have hport := isPort_page h (show n < 256 by omega)
    refine ⟨cellWrite oam ((s.ppu.oamaddr.toNat + n) % 256) (peek s (BitVec.ofNat 16 (256 * page.toNat + n))), ?_,
      fun i hi => ?_⟩
    · have hpeek : peek (dmaState s page n) (BitVec.ofNat 16 (256 * page.toNat + n)) =
          peek s (BitVec.ofNat 16 (256 * page.toNat + n)) := by
        rw [hstate]
        exact peek_congr hport rfl rfl rfl rfl
      rw [dmaState, memRead_eq_peek _ hport, hpeek, hstate]
    · rw [cellRead_write]
      by_cases hin : i = n
      · rw [if_pos (by rw [hin]), hin]
      · rw [if_neg (by omega), hbytes i (by omega)]

/-! ## The joypad -/

/-- The byte of a $4016 read as a number (R802). -/
theorem padByte_eq (p : Pad) :
    padByte p = BitVec.ofNat 8 (if p.pos < 8 then p.buttons.toNat / 2 ^ p.pos % 2 else 0) := by
  unfold padByte bitAt
  rw [getBit_eq_div_mod]
  by_cases h : p.pos < 8
  · rcases Nat.mod_two_eq_zero_or_one (p.buttons.toNat / 2 ^ p.pos) with hb | hb <;> simp [h, hb, bitNat]
  · simp [h, bitNat]

theorem readMany_succ_pad (s : State) (n : Nat) : readMany 0x4016 (n + 1) s =
    padByte s.pad :: readMany 0x4016 n (s.withPad (padAdvance s.pad)) := rfl

/-- Reads with the strobe clear give the buttons from the position on, then 0 (R802). -/
theorem readMany_pad {s : State} (hstrobe : s.pad.strobe = false) (hpos : s.pad.pos ≤ 8) (n : Nat) :
    readMany 0x4016 n s = (List.range n).map fun k =>
      BitVec.ofNat 8 (if s.pad.pos + k < 8 then s.pad.buttons.toNat / 2 ^ (s.pad.pos + k) % 2 else 0) := by
  induction n generalizing s with
  | zero => rfl
  | succ n ih =>
    rw [readMany_succ_pad, padByte_eq, List.range_succ_eq_map, List.map_cons, List.map_map, Nat.add_zero]
    congr 1
    by_cases h : s.pad.pos < 8
    · have hadv : padAdvance s.pad = { s.pad with pos := s.pad.pos + 1 } := if_pos ⟨hstrobe, h⟩
      rw [hadv, ih (s := s.withPad { s.pad with pos := s.pad.pos + 1 }) hstrobe h]
      refine List.map_congr_left fun k _ => ?_
      simp only [State.withPad_pad, Function.comp_apply, Nat.succ_eq_add_one, Nat.add_assoc, Nat.add_comm 1 k]
    · have hadv : padAdvance s.pad = s.pad := if_neg fun hand => h hand.2
      rw [hadv, ih (s := s.withPad s.pad) hstrobe hpos]
      refine List.map_congr_left fun k _ => ?_
      rw [if_neg (by simp only [State.withPad_pad]; omega), Function.comp_apply, if_neg (by omega)]

/-- Reads with the strobe set give the first button again and again (R802). -/
theorem readMany_pad_strobe {s : State} (hstrobe : s.pad.strobe = true) (hpos : s.pad.pos = 0) (n : Nat) :
    readMany 0x4016 n s = List.replicate n (BitVec.ofNat 8 (s.pad.buttons.toNat % 2)) := by
  induction n with
  | zero => rfl
  | succ n ih =>
    have hadv : padAdvance s.pad = s.pad := if_neg (by simp [hstrobe])
    rw [readMany_succ_pad, padByte_eq, hadv, hpos, List.replicate_succ]
    exact congrArg₂ _ (by simp) ih

theorem memWrite_strobe (s : State) {v : Byte} (h : v.toNat % 2 = 1) :
    memWrite 0x4016 v s = s.withPad { s.pad with strobe := true, pos := 0 } := by
  have hbit : getBit v 0 = true := by simp [getBit_eq_div_mod, h]
  change s.withPad (padWrite s.pad v) = _
  rw [padWrite, hbit, if_pos rfl]

theorem memWrite_unstrobe (s : State) {v : Byte} (h : v.toNat % 2 = 0) :
    memWrite 0x4016 v s = s.withPad { s.pad with strobe := false } := by
  have hbit : getBit v 0 = false := by simp [getBit_eq_div_mod, h]
  change s.withPad (padWrite s.pad v) = _
  rw [padWrite, hbit, if_neg Bool.false_ne_true]

end Sys2Proof.Machine

namespace Sys2Proof.Proofs

open Sys2Proof.Machine

/-- Settles O55. -/
theorem oamDma : Obligations.OamDma := by
  intro s page
  refine ⟨⟨dmaState s page, rfl, fun i _ => rfl, memWrite_oamDma s page⟩, fun h => ?_⟩
  obtain ⟨oam, hstate, hbytes⟩ := dmaState_noPort s page h (le_refl 256)
  rw [memWrite_oamDma, hstate]
  exact ⟨rfl, hbytes⟩

/-- Settles O56. -/
theorem joypadSerial : Obligations.JoypadSerial := by
  intro s v1 v0 n h1 h0
  constructor
  · rw [writeMany, writeMany, writeMany, memWrite_strobe s h1, memWrite_unstrobe _ h0]
    have hread := readMany_pad (s := (s.withPad { s.pad with strobe := true, pos := 0 }).withPad
      { s.pad with strobe := false, pos := 0 }) rfl (Nat.zero_le 8) n
    simp only [State.withPad_pad, Nat.zero_add] at hread
    exact hread
  · rw [memWrite_strobe s h1]
    exact readMany_pad_strobe (s := s.withPad { s.pad with strobe := true, pos := 0 }) rfl rfl n

end Sys2Proof.Proofs
end

section
/-! PROOF. The APU's registers (R710 to R725). -/

namespace Sys2Proof.Machine

variable (v : Byte)

/-! ## The fields of a written byte -/

theorem getField_eq_ofNat {w : Nat} (u : BitVec w) (lo len : Nat) :
    getField u lo len = BitVec.ofNat len (u.toNat / 2 ^ lo % 2 ^ len) :=
  BitVec.eq_of_toNat_eq (by rw [getField_toNat, BitVec.toNat_ofNat, Nat.mod_mod])

theorem getField_zero {w : Nat} (u : BitVec w) (len : Nat) : getField u 0 len = BitVec.ofNat len (u.toNat % 2 ^ len) := by
  rw [getField_eq_ofNat, Nat.pow_zero, Nat.div_one]

/-- The low eight bits of a period replaced (R712, R715). -/
theorem setField_low (p : BitVec 11) : setField p 0 v = BitVec.ofNat 11 (p.toNat / 256 * 256 + v.toNat) := by
  have hv := v.isLt
  have hp := p.isLt
  apply BitVec.eq_of_toNat_eq
  simp only [setField_toNat p 0 v (by decide), BitVec.toNat_ofNat, Nat.zero_add, Nat.pow_zero, Nat.mod_one,
    Nat.mul_one, Nat.add_zero]
  omega

/-- The high three bits of a period replaced (R713, R716). -/
theorem setField_high (p : BitVec 11) :
    setField p 8 (getField v 0 3) = BitVec.ofNat 11 (v.toNat % 8 * 256 + p.toNat % 256) := by
  have hp := p.isLt
  apply BitVec.eq_of_toNat_eq
  rw [setField_toNat p 8 (getField v 0 3) (by decide), getField_toNat, BitVec.toNat_ofNat]
  omega

theorem lengthOf_eq : lengthOf v = BitVec.ofNat 8 (lengthTable.getD (v.toNat / 8) 0) := by
  have hv := v.isLt
  have hfield : (getField v 3 5).toNat = v.toNat / 8 := by
    rw [getField_toNat]
    omega
  rw [lengthOf, hfield]

/-- The top two bits of a byte are its quarter. -/
theorem getField_top : getField v 6 2 = BitVec.ofNat 2 (v.toNat / 64) := by
  have hv := v.isLt
  rw [getField_eq_ofNat]
  congr 1
  omega

/-! ## $4015 and $4017 -/

theorem bitVec_ne_zero_iff {w : Nat} (n : BitVec w) : n ≠ 0 ↔ 0 < n.toNat := by
  rw [Nat.pos_iff_ne_zero, Ne, Ne, ← BitVec.toNat_inj]
  simp

/-- The status byte as a number (R721). -/
theorem apuStatus_eq (a : Apu) : apuStatus a =
    BitVec.ofNat 8 (bitNat (decide (0 < a.pulse1.length.toNat)) + 2 * bitNat (decide (0 < a.pulse2.length.toNat)) +
      4 * bitNat (decide (0 < a.tri.length.toNat)) + 8 * bitNat (decide (0 < a.noise.length.toNat)) +
      64 * bitNat a.frameIrq) := by
  have hbits : ∀ b0 b1 b2 b3 b6 : Bool, bitAt b0 0 ||| bitAt b1 1 ||| bitAt b2 2 ||| bitAt b3 3 ||| bitAt b6 6 =
      BitVec.ofNat 8 (bitNat b0 + 2 * bitNat b1 + 4 * bitNat b2 + 8 * bitNat b3 + 64 * bitNat b6) := by decide
  simp only [apuStatus, bitVec_ne_zero_iff, hbits]

/-- A length counter at a half frame as a number (R737). -/
theorem clockLength_toNat (halt : Bool) (n : BitVec 8) :
    (clockLength halt n).toNat = if halt = true then n.toNat else n.toNat - 1 := by
  revert halt n
  decide

/-- A sweep leaves the length (R737). -/
theorem clockSweep_length (ones : Nat) (ch : Pulse) : (clockSweep ones ch).length = ch.length := by
  unfold clockSweep
  simp only
  split <;> rfl

/-! ## Each register's write is its handler (R104) -/

section
variable (s : State)

variable {s v} in
/-- A register write that the APU handles. -/
theorem memWrite_apu {a : Word} {p : Nat} {x : Apu} (ht : target a = .port p)
    (hp : p ∉ ([0x2000, 0x2001, 0x2003, 0x2004, 0x2005, 0x2006, 0x2007, 0x4014, 0x4016] : List Nat))
    (hx : apuWrite s.apu p v = some x) : memWrite a v s = { s with apu := x } := by
  simp only [List.mem_cons, List.not_mem_nil, or_false, not_or] at hp
  obtain ⟨h0, h1, h3, h4, h5, h6, h7, h14, h16⟩ := hp
  rw [memWrite_port ht, portWrite, if_neg h0, if_neg h1, if_neg h3, if_neg h4, if_neg h5, if_neg h6, if_neg h7,
    if_neg h14, if_neg h16, hx]
  rfl

theorem memWrite_pulse1Duty :
    memWrite 0x4000 v s = { s with apu := { s.apu with pulse1 := pulseWriteDuty s.apu.pulse1 v } } :=
  memWrite_apu (p := 0x4000) rfl (by decide) (by simp [apuWrite, pulseWrite])
theorem memWrite_pulse1Sweep :
    memWrite 0x4001 v s = { s with apu := { s.apu with pulse1 := pulseWriteSweep s.apu.pulse1 v } } :=
  memWrite_apu (p := 0x4001) rfl (by decide) (by simp [apuWrite, pulseWrite])
theorem memWrite_pulse1Low :
    memWrite 0x4002 v s = { s with apu := { s.apu with pulse1 := pulseWriteLow s.apu.pulse1 v } } :=
  memWrite_apu (p := 0x4002) rfl (by decide) (by simp [apuWrite, pulseWrite])
theorem memWrite_pulse1High :
    memWrite 0x4003 v s = { s with apu := { s.apu with pulse1 := pulseWriteHigh s.apu.pulse1 v } } :=
  memWrite_apu (p := 0x4003) rfl (by decide) (by simp [apuWrite, pulseWrite])
theorem memWrite_pulse2Duty :
    memWrite 0x4004 v s = { s with apu := { s.apu with pulse2 := pulseWriteDuty s.apu.pulse2 v } } :=
  memWrite_apu (p := 0x4004) rfl (by decide) (by simp [apuWrite, pulseWrite])
theorem memWrite_pulse2Sweep :
    memWrite 0x4005 v s = { s with apu := { s.apu with pulse2 := pulseWriteSweep s.apu.pulse2 v } } :=
  memWrite_apu (p := 0x4005) rfl (by decide) (by simp [apuWrite, pulseWrite])
theorem memWrite_pulse2Low :
    memWrite 0x4006 v s = { s with apu := { s.apu with pulse2 := pulseWriteLow s.apu.pulse2 v } } :=
  memWrite_apu (p := 0x4006) rfl (by decide) (by simp [apuWrite, pulseWrite])
theorem memWrite_pulse2High :
    memWrite 0x4007 v s = { s with apu := { s.apu with pulse2 := pulseWriteHigh s.apu.pulse2 v } } :=
  memWrite_apu (p := 0x4007) rfl (by decide) (by simp [apuWrite, pulseWrite])
theorem memWrite_triLinear :
    memWrite 0x4008 v s = { s with apu := { s.apu with tri := triWriteLinear s.apu.tri v } } :=
  memWrite_apu (p := 0x4008) rfl (by decide) (by simp [apuWrite])
theorem memWrite_triLow :
    memWrite 0x400A v s = { s with apu := { s.apu with tri := triWriteLow s.apu.tri v } } :=
  memWrite_apu (p := 0x400A) rfl (by decide) (by simp [apuWrite])
theorem memWrite_triHigh :
    memWrite 0x400B v s = { s with apu := { s.apu with tri := triWriteHigh s.apu.tri v } } :=
  memWrite_apu (p := 0x400B) rfl (by decide) (by simp [apuWrite])
theorem memWrite_noiseVolume :
    memWrite 0x400C v s = { s with apu := { s.apu with noise := noiseWriteVolume s.apu.noise v } } :=
  memWrite_apu (p := 0x400C) rfl (by decide) (by simp [apuWrite])
theorem memWrite_noiseMode :
    memWrite 0x400E v s = { s with apu := { s.apu with noise := noiseWriteMode s.apu.noise v } } :=
  memWrite_apu (p := 0x400E) rfl (by decide) (by simp [apuWrite])
theorem memWrite_noiseLength :
    memWrite 0x400F v s = { s with apu := { s.apu with noise := noiseWriteLength s.apu.noise v } } :=
  memWrite_apu (p := 0x400F) rfl (by decide) (by simp [apuWrite])
theorem memWrite_enable : memWrite 0x4015 v s = { s with apu := writeEnable s.apu v } :=
  memWrite_apu (p := 0x4015) rfl (by decide) (by simp [apuWrite])
theorem memWrite_frameCounter : memWrite 0x4017 v s = { s with apu := writeFrameCounter s.apu v } :=
  memWrite_apu (p := 0x4017) rfl (by decide) (by simp [apuWrite])

end

/-- The length counters after the clocks that a $4017 write makes at once (R722, R737). -/
theorem clockedLengths (a : Apu) : let t := halfFrame (quarterFrame a)
    t.pulse1.length = clockLength a.pulse1.halt a.pulse1.length ∧
    t.pulse2.length = clockLength a.pulse2.halt a.pulse2.length ∧
    t.tri.length = clockLength a.tri.control a.tri.length ∧
    t.noise.length = clockLength a.noise.halt a.noise.length :=
  ⟨clockSweep_length .., clockSweep_length .., rfl, rfl⟩

end Sys2Proof.Machine

namespace Sys2Proof.Proofs

open Sys2Proof.Machine

/-- Settles O57. -/
theorem apuStatus : Obligations.ApuStatus := by
  intro s v a on keep table load low high duty sweep start pulse1 pulse2 tri noise restarted clocked t
  have hbit : ∀ k, getBit v k = on k := getBit_eq_div_mod v
  have hlow : ∀ p, setField p 0 v = low p := setField_low v
  have hhigh : ∀ p, setField p 8 (getField v 0 3) = high p := setField_high v
  have hload : ∀ (e : Bool) (n : BitVec 8), (if e = true then lengthOf v else n) = load e n := fun e n => by
    rw [lengthOf_eq]
    rfl
  have hkeep : ∀ (k : Nat) (n : BitVec 8), (if getBit v k = true then n else 0) = keep k n := fun k n => by
    rw [hbit]
    exact if_congr decide_eq_true_iff rfl rfl
  have hduty : ∀ c, pulseWriteDuty c v = duty c := fun c => by
    rw [pulseWriteDuty, hbit, hbit, getField_top, getField_zero]
    rfl
  have hsweep : ∀ c, pulseWriteSweep c v = sweep c := fun c => by
    rw [pulseWriteSweep, hbit, hbit, getField_eq_ofNat v 4 3, getField_zero]
    rfl
  have hstart : ∀ c, pulseWriteHigh c v = start c := fun c => by rw [pulseWriteHigh, hhigh, hload]
  have hrestart : memWrite 0x4017 v s =
      { s with apu := if v.toNat < 128 then restarted else halfFrame (quarterFrame restarted) } := by
    have h7 : getBit v 7 = decide (128 ≤ v.toNat) := getBit_seven v
    have hirq : (if getBit v 6 = true then false else a.frameIrq) =
        if v.toNat / 64 % 2 = 1 then false else a.frameIrq := by
      rw [hbit]
      exact if_congr decide_eq_true_iff rfl rfl
    have hreset : { a with
        mode5 := getBit v 7, irqInhibit := getBit v 6, frameCycles := 0
        frameIrq := if getBit v 6 = true then false else a.frameIrq } = restarted := by
      rw [hirq, hbit, hbit]
    rw [memWrite_frameCounter, writeFrameCounter, hreset, h7]
    by_cases h : v.toNat < 128
    · rw [if_neg (by simpa using h), if_pos h]
    · rw [if_pos (by simpa using h), if_neg h]
  refine ⟨⟨?_, ?_⟩, ⟨?_, ?_⟩, ⟨?_, ?_⟩, ⟨?_, ?_⟩, ?linear, ?_, ?triHigh, ?volume, ?mode, ?noiseHigh, hrestart,
    fun h => ?clocked, ?enable, ?status, rfl⟩
  · rw [memWrite_pulse1Duty, hduty]
  · rw [memWrite_pulse2Duty, hduty]
  · rw [memWrite_pulse1Sweep, hsweep]
  · rw [memWrite_pulse2Sweep, hsweep]
  · rw [memWrite_pulse1Low, pulseWriteLow, hlow]
  · rw [memWrite_pulse2Low, pulseWriteLow, hlow]
  · rw [memWrite_pulse1High, hstart]
  · rw [memWrite_pulse2High, hstart]
  case linear => rw [memWrite_triLinear, triWriteLinear, hbit, getField_zero]; rfl
  · rw [memWrite_triLow, triWriteLow, hlow]
  case triHigh => rw [memWrite_triHigh, triWriteHigh, hhigh, hload]
  case volume => rw [memWrite_noiseVolume, noiseWriteVolume, hbit, hbit, getField_zero]; rfl
  case mode => rw [memWrite_noiseMode, noiseWriteMode, hbit, getField_zero]; rfl
  case noiseHigh => rw [memWrite_noiseLength, noiseWriteLength, hload]
  case clocked =>
    have ht : t = halfFrame (quarterFrame restarted) := by
      have := congrArg State.apu hrestart
      rwa [if_neg (by omega)] at this
    obtain ⟨h1, h2, htri, hnoise⟩ := clockedLengths restarted
    rw [ht, h1, h2, htri, hnoise, clockLength_toNat, clockLength_toNat, clockLength_toNat, clockLength_toNat]
    exact ⟨rfl, rfl, rfl, rfl⟩
  case enable =>
    rw [memWrite_enable, writeEnable]
    rw [hkeep 0, hkeep 1, hkeep 2, hkeep 3, hbit, hbit, hbit, hbit]
  case status => exact Machine.apuStatus_eq a

end Sys2Proof.Proofs
end

section
/-! PROOF. Frame clocks and one full cycle of the frame sequencer (R735 to R738). -/

namespace Sys2Proof.Machine

/-! ## Frame clocks as arithmetic -/

/-- A counter that stops at 0, as a number. -/
theorem decrement_eq {w : Nat} (n : BitVec w) : (if n ≠ 0 then n - 1 else n) = BitVec.ofNat w (n.toNat - 1) := by
  by_cases h : n = 0
  · subst h
    simp
  · rw [if_pos h, sub_one_eq_ofNat n h]

theorem clockEnvelope_eq (halt : Bool) (vol : BitVec 4) (e : Envelope) : clockEnvelope halt vol e =
    if e.start = true then { start := false, div := vol, decay := 15 }
    else if 0 < e.div.toNat then { e with div := BitVec.ofNat 4 (e.div.toNat - 1) }
    else { e with
      div := vol
      decay := if 0 < e.decay.toNat then BitVec.ofNat 4 (e.decay.toNat - 1) else if halt = true then 15 else 0 } := by
  unfold clockEnvelope
  by_cases hstart : e.start = true
  · rw [if_pos hstart, if_pos hstart]
  rw [if_neg hstart, if_neg hstart]
  by_cases hdiv : e.div = 0
  · have hdiv' : ¬ 0 < e.div.toNat := by simp [hdiv]
    rw [if_pos hdiv, if_neg hdiv']
    by_cases hdecay : e.decay = 0
    · have hdecay' : ¬ 0 < e.decay.toNat := by simp [hdecay]
      rw [if_neg (not_not.mpr hdecay), if_neg hdecay', hdecay]
    · rw [if_pos hdecay, if_pos ((bitVec_ne_zero_iff _).mp hdecay), sub_one_eq_ofNat _ hdecay]
  · rw [if_neg hdiv, if_pos ((bitVec_ne_zero_iff _).mp hdiv), sub_one_eq_ofNat _ hdiv]

theorem clockLinear_eq (t : Triangle) : clockLinear t = { t with
    linCounter := if t.linReloadFlag = true then t.linReload else BitVec.ofNat 7 (t.linCounter.toNat - 1)
    linReloadFlag := t.linReloadFlag && t.control } := by
  unfold clockLinear
  rw [decrement_eq]
  cases t.control <;> simp

theorem clockLength_eq (halt : Bool) (n : BitVec 8) :
    clockLength halt n = if halt = true then n else BitVec.ofNat 8 (n.toNat - 1) := by
  rw [← decrement_eq]
  cases halt <;> simp [clockLength]

/-- The sweep unit's new period (R737). -/
def sweptPeriod (ones : Nat) (c : Pulse) : BitVec 11 :=
  if c.sweepDiv = 0 ∧ c.sweepEn = true ∧ c.sweepShift ≠ 0 ∧ 0 ≤ sweepTarget c ones ∧ sweepTarget c ones ≤ 0x7FF then
    BitVec.ofInt 11 (sweepTarget c ones) else c.period

theorem clockSweep_eq (ones : Nat) (c : Pulse) : clockSweep ones c = { c with
    period := sweptPeriod ones c
    sweepDiv := if c.sweepDiv = 0 ∨ c.sweepReload = true then c.sweepPeriod else BitVec.ofNat 3 (c.sweepDiv.toNat - 1)
    sweepReload := false } := by
  have hperiod : (if (decide (c.sweepDiv = 0) && c.sweepEn && decide (c.sweepShift ≠ 0) &&
      decide (0 ≤ sweepTarget c ones) && decide (sweepTarget c ones ≤ 0x7FF)) = true then
      BitVec.ofNat 11 (sweepTarget c ones).toNat else c.period) = sweptPeriod ones c := by
    simp only [Bool.and_eq_true, decide_eq_true_eq, and_assoc, sweptPeriod]
    by_cases h : c.sweepDiv = 0 ∧ c.sweepEn = true ∧ c.sweepShift ≠ 0 ∧ 0 ≤ sweepTarget c ones ∧
        sweepTarget c ones ≤ 0x7FF
    · rw [if_pos h, if_pos h]
      obtain ⟨n, hn⟩ := Int.eq_ofNat_of_zero_le h.2.2.2.1
      rw [hn]
      simp
    · rw [if_neg h, if_neg h]
  unfold clockSweep
  simp only [hperiod]
  by_cases hreload : c.sweepDiv = 0 ∨ c.sweepReload = true
  · rw [if_pos (by simpa using hreload), if_pos hreload]
  · obtain ⟨hdiv, hflag⟩ := not_or.mp hreload
    rw [if_neg (by simpa using hreload), if_neg hreload, sub_one_eq_ofNat _ hdiv]
    simp only [Bool.not_eq_true] at hflag
    rw [hflag]

/-! ## What the sequencer does to the lengths and the IRQ flag -/

/-- The part of the APU that the frame sequencer's cycle speaks of. -/
structure FrameView where
  pulse1 : BitVec 8
  pulse2 : BitVec 8
  tri : BitVec 8
  noise : BitVec 8
  halt1 : Bool
  halt2 : Bool
  control : Bool
  haltNoise : Bool
  mode5 : Bool
  irqInhibit : Bool
  frameIrq : Bool
  frameCycles : Nat

def Apu.frameView (a : Apu) : FrameView :=
  { pulse1 := a.pulse1.length, pulse2 := a.pulse2.length, tri := a.tri.length, noise := a.noise.length
    halt1 := a.pulse1.halt, halt2 := a.pulse2.halt, control := a.tri.control, haltNoise := a.noise.halt
    mode5 := a.mode5, irqInhibit := a.irqInhibit, frameIrq := a.frameIrq, frameCycles := a.frameCycles }

/-- A half frame on the view (R737). -/
def FrameView.half (w : FrameView) : FrameView :=
  { w with
    pulse1 := clockLength w.halt1 w.pulse1, pulse2 := clockLength w.halt2 w.pulse2
    tri := clockLength w.control w.tri, noise := clockLength w.haltNoise w.noise }

/-- The events of a frame step on the view (R735). -/
def FrameView.events (step : Nat) (w : FrameView) : FrameView :=
  if step = 1 ∨ step = 3 then w
  else if step = 2 then w.half
  else if w.mode5 then (if step = 5 then w.half else w)
  else if w.irqInhibit then w.half else { w.half with frameIrq := true }

/-- A tick on the view, for a frame step of `period` ticks (R701, R735). -/
def FrameView.tick (period : Nat) (w : FrameView) : FrameView :=
  if (w.frameCycles + 1) % period = 0 then
    FrameView.events (frameStep w.mode5 ((w.frameCycles + 1) / period)) { w with frameCycles := w.frameCycles + 1 }
  else { w with frameCycles := w.frameCycles + 1 }

theorem frameView_quarterFrame (a : Apu) : (quarterFrame a).frameView = a.frameView := rfl

theorem clockSweep_halt (ones : Nat) (ch : Pulse) : (clockSweep ones ch).halt = ch.halt := by
  rw [clockSweep_eq]

theorem frameView_halfFrame (a : Apu) : (halfFrame a).frameView = a.frameView.half := by
  simp only [halfFrame, Apu.frameView, FrameView.half, clockSweep_length, clockSweep_halt]

theorem frameView_frameEvents (step : Nat) (a : Apu) : (frameEvents step a).frameView = a.frameView.events step := by
  unfold frameEvents FrameView.events
  by_cases h13 : step = 1 ∨ step = 3
  · rw [if_pos h13, if_pos h13, frameView_quarterFrame]
  rw [if_neg h13, if_neg h13]
  by_cases h2 : step = 2
  · rw [if_pos h2, if_pos h2, frameView_halfFrame, frameView_quarterFrame]
  rw [if_neg h2, if_neg h2]
  by_cases hmode : a.mode5 = true
  · rw [if_pos hmode, if_pos (show a.frameView.mode5 = true from hmode)]
    by_cases h5 : step = 5
    · rw [if_pos h5, if_pos h5, frameView_halfFrame, frameView_quarterFrame]
    · rw [if_neg h5, if_neg h5]
  rw [if_neg hmode, if_neg (show ¬ a.frameView.mode5 = true from hmode)]
  by_cases hirq : a.irqInhibit = true
  · rw [if_pos (show a.frameView.irqInhibit = true from hirq)]
    simp only [if_pos hirq, frameView_halfFrame, frameView_quarterFrame]
  · rw [if_neg (show ¬ a.frameView.irqInhibit = true from hirq)]
    simp only [if_neg hirq]
    rw [← frameView_quarterFrame a, ← frameView_halfFrame (quarterFrame a)]
    rfl

theorem frameView_frameSequencerTick (a : Apu) : (frameSequencerTick a).frameView = a.frameView.tick frameStepCycles := by
  unfold frameSequencerTick FrameView.tick
  by_cases h : (a.frameCycles + 1) % frameStepCycles = 0
  · simp only [if_pos h, frameView_frameEvents]
    exact (if_pos (show (a.frameView.frameCycles + 1) % frameStepCycles = 0 from h)).symm
  · simp only [if_neg h]
    exact (if_neg (show ¬ (a.frameView.frameCycles + 1) % frameStepCycles = 0 from h)).symm

theorem pulseTimer_length_halt (ch : Pulse) : (pulseTimer ch).length = ch.length ∧ (pulseTimer ch).halt = ch.halt := by
  unfold pulseTimer
  split <;> exact ⟨rfl, rfl⟩

theorem triangleTimer_length_control (t : Triangle) :
    (triangleTimer t).length = t.length ∧ (triangleTimer t).control = t.control := by
  unfold triangleTimer
  split <;> exact ⟨rfl, rfl⟩

theorem noiseTimer_length_halt (periods : List Nat) (n : Noise) :
    (noiseTimer periods n).length = n.length ∧ (noiseTimer periods n).halt = n.halt := by
  unfold noiseTimer
  split <;> exact ⟨rfl, rfl⟩

theorem frameView_channelTimers (params : Params) (a : Apu) : (channelTimers params a).frameView = a.frameView := by
  obtain ⟨htri, hcontrol⟩ := triangleTimer_length_control a.tri
  unfold channelTimers
  split
  · simp only [Apu.frameView, htri, hcontrol, pulseTimer_length_halt, noiseTimer_length_halt]
  · simp only [Apu.frameView, htri, hcontrol]

theorem frameView_sampleTick (params : Params) (a : Apu) : (sampleTick params a).frameView = a.frameView := by
  unfold sampleTick
  split <;> rfl

/-- A tick acts on the view alone (R701). -/
theorem frameView_apuTickOf (params : Params) (a : Apu) :
    (apuTickOf params a).frameView = a.frameView.tick frameStepCycles := by
  have hcount : (apuTickOf params a).frameView =
    (sampleTick params (frameSequencerTick (channelTimers params a))).frameView := rfl
  rw [hcount, frameView_sampleTick, frameView_frameSequencerTick, frameView_channelTimers]

theorem frameView_afterTicks (params : Params) (n : Nat) (a : Apu) :
    (afterTicks params n a).frameView = (FrameView.tick frameStepCycles)^[n] a.frameView := by
  induction n generalizing a with
  | zero => rfl
  | succ n ih => rw [afterTicks, ih, frameView_apuTickOf, Function.iterate_succ_apply]

section
variable {w : FrameView} {period k : Nat}

/-- Inside a frame step the ticks are counted and nothing else (R735). -/
theorem tick_quiet {n : Nat} (hw : w.frameCycles = k * period) (hn : n < period) :
    (FrameView.tick period)^[n] w = { w with frameCycles := k * period + n } := by
  induction n with
  | zero => rw [Nat.add_zero, ← hw]; rfl
  | succ n ih =>
    have hmod : ¬ (k * period + n + 1) % period = 0 := by
      rw [Nat.add_assoc, Nat.mul_add_mod_self_right, Nat.mod_eq_of_lt hn]
      omega
    rw [Function.iterate_succ_apply', ih (by omega), FrameView.tick, if_neg hmod]
    rfl

/-- A frame step: its ticks counted, its events at the end (R735). -/
theorem tick_frameStep (w : FrameView) {mode5 : Bool} (hperiod : 0 < period) (hw : w.frameCycles = k * period)
    (hmode : w.mode5 = mode5) : (FrameView.tick period)^[period] w =
      FrameView.events (frameStep mode5 (k + 1)) { w with frameCycles := (k + 1) * period } := by
  obtain ⟨last, rfl⟩ : ∃ last, period = last + 1 := ⟨period - 1, by omega⟩
  have hnext : k * (last + 1) + last + 1 = (k + 1) * (last + 1) := by rw [Nat.succ_mul, Nat.add_assoc]
  have hmod : (k + 1) * (last + 1) % (last + 1) = 0 := Nat.mul_mod_left ..
  have hdiv : (k + 1) * (last + 1) / (last + 1) = k + 1 := Nat.mul_div_cancel _ hperiod
  rw [Function.iterate_succ_apply', tick_quiet hw (Nat.lt_succ_self last), FrameView.tick]
  simp only [hnext, hmod, hdiv, if_true, hmode]

/-- The last step of the 4-step sequence (R735). -/
theorem events_last (w : FrameView) (hmode : w.mode5 = false) :
    FrameView.events 4 w = { w.half with frameIrq := w.frameIrq || !w.irqInhibit } := by
  have hmode' : ¬ w.mode5 = true := by simp [hmode]
  rw [FrameView.events, if_neg (by decide), if_neg (by decide), if_neg hmode']
  cases hirq : w.irqInhibit <;> simp [FrameView.half, hirq]

/-- The 4-step sequence: half frames at steps 2 and 4, the IRQ flag at step 4 (R735). -/
theorem tick_fourSteps (hperiod : 0 < period) (hfc : w.frameCycles = 0) (hmode : w.mode5 = false) :
    (FrameView.tick period)^[period + (period + (period + period))] w = { w.half.half with
      frameIrq := w.frameIrq || !w.irqInhibit, frameCycles := 4 * period } := by
  have hstep1 : (FrameView.tick period)^[period] w = { w with frameCycles := 1 * period } :=
    tick_frameStep w (k := 0) hperiod (by rw [hfc, Nat.zero_mul]) hmode
  have hstep2 : (FrameView.tick period)^[period] { w with frameCycles := 1 * period } =
      { w.half with frameCycles := 2 * period } :=
    tick_frameStep { w with frameCycles := 1 * period } (k := 1) hperiod rfl hmode
  have hstep3 : (FrameView.tick period)^[period] { w.half with frameCycles := 2 * period } =
      { w.half with frameCycles := 3 * period } :=
    tick_frameStep { w.half with frameCycles := 2 * period } (k := 2) hperiod rfl hmode
  have hstep4 : (FrameView.tick period)^[period] { w.half with frameCycles := 3 * period } =
      { w.half.half with frameIrq := w.frameIrq || !w.irqInhibit, frameCycles := 4 * period } :=
    (tick_frameStep { w.half with frameCycles := 3 * period } (k := 3) hperiod rfl hmode).trans (events_last _ hmode)
  rw [Function.iterate_add_apply, Function.iterate_add_apply, Function.iterate_add_apply, hstep1, hstep2, hstep3, hstep4]

/-- The 5-step sequence: half frames at steps 2 and 5, no IRQ (R735). -/
theorem tick_fiveSteps (hperiod : 0 < period) (hfc : w.frameCycles = 0) (hmode : w.mode5 = true) :
    (FrameView.tick period)^[period + (period + (period + (period + period)))] w =
      { w.half.half with frameCycles := 5 * period } := by
  have hstep1 : (FrameView.tick period)^[period] w = { w with frameCycles := 1 * period } :=
    tick_frameStep w (k := 0) hperiod (by rw [hfc, Nat.zero_mul]) hmode
  have hstep2 : (FrameView.tick period)^[period] { w with frameCycles := 1 * period } =
      { w.half with frameCycles := 2 * period } :=
    tick_frameStep { w with frameCycles := 1 * period } (k := 1) hperiod rfl hmode
  have hstep3 : (FrameView.tick period)^[period] { w.half with frameCycles := 2 * period } =
      { w.half with frameCycles := 3 * period } :=
    tick_frameStep { w.half with frameCycles := 2 * period } (k := 2) hperiod rfl hmode
  have hstep4 : (FrameView.tick period)^[period] { w.half with frameCycles := 3 * period } =
      { w.half with frameCycles := 4 * period } :=
    (tick_frameStep { w.half with frameCycles := 3 * period } (k := 3) hperiod rfl hmode).trans (if_pos hmode)
  have hstep5 : (FrameView.tick period)^[period] { w.half with frameCycles := 4 * period } =
      { w.half.half with frameCycles := 5 * period } :=
    (tick_frameStep { w.half with frameCycles := 4 * period } (k := 4) hperiod rfl hmode).trans (if_pos hmode)
  rw [Function.iterate_add_apply, Function.iterate_add_apply, Function.iterate_add_apply, Function.iterate_add_apply,
    hstep1, hstep2, hstep3, hstep4, hstep5]

end

/-- One cycle of the 4-step sequence from its start (R735). -/
theorem frameView_fourSteps (params : Params) {a : Apu} (hfc : a.frameCycles = 0) (hmode : a.mode5 = false) :
    (afterTicks params 29828 a).frameView = { a.frameView.half.half with
      frameIrq := a.frameIrq || !a.irqInhibit, frameCycles := 4 * frameStepCycles } := by
  have hlen : 29828 = frameStepCycles + (frameStepCycles + (frameStepCycles + frameStepCycles)) := by decide
  rw [frameView_afterTicks, hlen]
  exact tick_fourSteps (by decide) hfc hmode

/-- One cycle of the 5-step sequence from its start (R735). -/
theorem frameView_fiveSteps (params : Params) {a : Apu} (hfc : a.frameCycles = 0) (hmode : a.mode5 = true) :
    (afterTicks params 37285 a).frameView = { a.frameView.half.half with frameCycles := 5 * frameStepCycles } := by
  have hlen : 37285 =
    frameStepCycles + (frameStepCycles + (frameStepCycles + (frameStepCycles + frameStepCycles))) := by decide
  rw [frameView_afterTicks, hlen]
  exact tick_fiveSteps (by decide) hfc hmode

theorem clockLength_twice (halt : Bool) (n : BitVec 8) :
    (clockLength halt (clockLength halt n)).toNat = if halt = true then n.toNat else n.toNat - 2 := by
  rw [clockLength_toNat, clockLength_toNat]
  cases halt
  · exact Nat.sub_sub n.toNat 1 1
  · rfl

/-- The four lengths of a state that the sequencer's two half frames have led to, as numbers (R738). -/
theorem lengths_half_half {a t : Apu} {irq : Bool} {fc : Nat}
    (h : t.frameView = { a.frameView.half.half with frameIrq := irq, frameCycles := fc }) :
    (t.pulse1.length.toNat = (if a.pulse1.halt = true then a.pulse1.length.toNat else a.pulse1.length.toNat - 2) ∧
      t.pulse2.length.toNat = (if a.pulse2.halt = true then a.pulse2.length.toNat else a.pulse2.length.toNat - 2) ∧
      t.tri.length.toNat = (if a.tri.control = true then a.tri.length.toNat else a.tri.length.toNat - 2) ∧
      t.noise.length.toNat = (if a.noise.halt = true then a.noise.length.toNat else a.noise.length.toNat - 2)) ∧
    t.frameIrq = irq := by
  refine ⟨⟨?_, ?_, ?_, ?_⟩, congrArg FrameView.frameIrq h⟩
  · exact (congrArg (fun w => w.pulse1.toNat) h).trans (clockLength_twice ..)
  · exact (congrArg (fun w => w.pulse2.toNat) h).trans (clockLength_twice ..)
  · exact (congrArg (fun w => w.tri.toNat) h).trans (clockLength_twice ..)
  · exact (congrArg (fun w => w.noise.toNat) h).trans (clockLength_twice ..)

end Sys2Proof.Machine

namespace Sys2Proof.Proofs

open Sys2Proof.Machine

/-- Settles O58. -/
theorem lengthPerHalfFrame : Obligations.LengthPerHalfFrame := by
  intro params a envelope shorter sweep
  have hshorter : ∀ halt n, clockLength halt n = shorter halt n := clockLength_eq
  have hsweep : ∀ (ones : Nat) (c : Pulse), clockSweep ones { c with length := shorter c.halt c.length } = sweep ones c :=
    fun ones c => clockSweep_eq ones _
  refine ⟨?quarter, ?half, fun hfc => ⟨fun hmode => ?four, fun hmode => ?five⟩⟩
  case quarter =>
    rw [quarterFrame, clockEnvelope_eq, clockEnvelope_eq, clockEnvelope_eq, clockLinear_eq]
  case half =>
    rw [halfFrame, hshorter, hshorter, hshorter, hshorter, hsweep, hsweep]
  case four => exact lengths_half_half (frameView_fourSteps params hfc hmode)
  case five => exact lengths_half_half (frameView_fiveSteps params hfc hmode)

end Sys2Proof.Proofs
end

section
/-! PROOF. One APU tick written out, and the sample rate (R701, R726 to R735, R745, R750). -/

namespace Sys2Proof.Machine

/-! ## The channel timers -/

theorem bitVec_add_one {w : Nat} (n : BitVec w) : n + 1#w = BitVec.ofNat w (n.toNat + 1) := by
  rw [BitVec.ofNat_add, BitVec.ofNat_toNat, BitVec.setWidth_eq]

theorem pulseTimer_eq (c : Pulse) : pulseTimer c =
    if c.timer = 0 then { c with timer := c.period, seq := BitVec.ofNat 3 (c.seq.toNat + 1) }
    else { c with timer := BitVec.ofNat 11 (c.timer.toNat - 1) } := by
  unfold pulseTimer
  by_cases h : c.timer = 0
  · rw [if_pos h, if_pos h, ← bitVec_add_one]
    rfl
  · rw [if_neg h, if_neg h, sub_one_eq_ofNat _ h]

theorem triangleTimer_eq (c : Triangle) : triangleTimer c =
    if c.timer = 0 then { c with
      timer := c.period
      seq := if 0 < c.length.toNat ∧ 0 < c.linCounter.toNat then BitVec.ofNat 5 (c.seq.toNat + 1) else c.seq }
    else { c with timer := BitVec.ofNat 11 (c.timer.toNat - 1) } := by
  unfold triangleTimer
  by_cases h : c.timer = 0
  · rw [if_pos h, if_pos h, ← bitVec_add_one]
    simp only [bitVec_ne_zero_iff]
    rfl
  · rw [if_neg h, if_neg h, sub_one_eq_ofNat _ h]

theorem noiseTimer_eq (periods : List Nat) (c : Noise) : noiseTimer periods c =
    if c.timer = 0 then { c with
      timer := BitVec.ofNat 12 (periods.getD c.periodIndex.toNat 0 + 4095)
      lfsr := BitVec.ofNat 15 (c.lfsr.toNat / 2 +
        16384 * ((c.lfsr.toNat % 2 + c.lfsr.toNat / (if c.mode = true then 64 else 2) % 2) % 2)) }
    else { c with timer := BitVec.ofNat 12 (c.timer.toNat - 1) } := by
  have hpred : ∀ n : Nat, BitVec.ofNat 12 n - 1 = BitVec.ofNat 12 (n + 4095) := fun n => by
    rw [BitVec.ofNat_add, BitVec.sub_eq_add_neg]
    rfl
  unfold noiseTimer
  by_cases h : c.timer = 0
  · rw [if_pos h, if_pos h, hpred, lfsrNext_eq]
  · rw [if_neg h, if_neg h, sub_one_eq_ofNat _ h]

/-! ## The amplitudes -/

theorem sweepMute_iff (params : Params) (ones : Nat) (c : Pulse) : sweepMute params ones c = true ↔
    params.pulseSweepMute = true ∧ (c.period.toNat < 8 ∨
      (c.sweepNeg = false ∧ 0x7FF < c.period.toNat + c.period.toNat / 2 ^ c.sweepShift.toNat)) := by
  have hlt := c.period.isLt
  unfold sweepMute sweepTarget
  simp only
  generalize c.period.toNat / 2 ^ c.sweepShift.toNat = change
  cases hneg : c.sweepNeg
  · simp
    omega
  · simp
    omega

/-- The duty table as rows (R726). -/
theorem dutyOut_eq (duty : BitVec 2) (seq : BitVec 3) : dutyOut duty seq =
    ((([[0, 1, 0, 0, 0, 0, 0, 0], [0, 1, 1, 0, 0, 0, 0, 0], [0, 1, 1, 1, 1, 0, 0, 0], [1, 0, 0, 1, 1, 1, 1, 1]] :
      List (List Nat)).getD duty.toNat []).getD seq.toNat 0) := by
  revert duty seq
  decide

/-- The volume of a channel (R745). -/
theorem pulseAmp_eq (params : Params) (ones : Nat) (c : Pulse) : pulseAmp params ones c =
    if c.enabled = false ∨ c.length = 0 ∨ ((([[0, 1, 0, 0, 0, 0, 0, 0], [0, 1, 1, 0, 0, 0, 0, 0],
        [0, 1, 1, 1, 1, 0, 0, 0], [1, 0, 0, 1, 1, 1, 1, 1]] : List (List Nat)).getD c.duty.toNat []).getD c.seq.toNat 0) = 0 ∨
        (params.pulseSweepMute = true ∧ (c.period.toNat < 8 ∨
          (c.sweepNeg = false ∧ 0x7FF < c.period.toNat + c.period.toNat / 2 ^ c.sweepShift.toNat))) then 0
    else if c.constVol = true then c.vol else c.env.decay := by
  unfold pulseAmp
  refine if_congr ?_ rfl rfl
  rw [Bool.or_eq_true, Bool.or_eq_true, Bool.or_eq_true, decide_eq_true_eq, decide_eq_true_eq, sweepMute_iff,
    Bool.not_eq_true', dutyOut_eq, or_assoc, or_assoc]

theorem triangleAmp_eq (t : Triangle) : triangleAmp t = if t.enabled = false ∨ t.length = 0 then 0
    else BitVec.ofNat 4 (if t.seq.toNat < 16 then 15 - t.seq.toNat else t.seq.toNat - 16) := by
  unfold triangleAmp
  refine if_congr ?_ rfl rfl
  rw [Bool.or_eq_true, decide_eq_true_eq, Bool.not_eq_true']

theorem noiseAmp_eq (n : Noise) : noiseAmp n =
    if n.enabled = false ∨ n.length = 0 ∨ n.lfsr.toNat % 2 = 1 then 0
    else if n.constVol = true then n.vol else n.env.decay := by
  unfold noiseAmp
  refine if_congr ?_ rfl rfl
  rw [Bool.or_eq_true, Bool.or_eq_true, decide_eq_true_eq, Bool.not_eq_true', getBit_eq_div_mod, decide_eq_true_eq,
    pow_zero, Nat.div_one, or_assoc]

/-! ## The frame sequencer -/

/-- An APU with the frame clocks of a tick: a quarter frame, then a half frame (R736, R737). -/
def clockedApu (quarter half : Bool) (a : Apu) : Apu :=
  if half = true then halfFrame (if quarter = true then quarterFrame a else a)
  else if quarter = true then quarterFrame a else a

theorem clockedApu_decide (quarter half : Prop) [Decidable quarter] [Decidable half] (a : Apu) :
    clockedApu (decide quarter) (decide half) a = if half then halfFrame (if quarter then quarterFrame a else a)
      else if quarter then quarterFrame a else a := by
  unfold clockedApu
  simp only [decide_eq_true_eq]

/-- Frame clocks leave the IRQ flag and the tick and sample counters. -/
theorem clockedApu_keeps (quarter half : Bool) (a : Apu) : (clockedApu quarter half a).frameIrq = a.frameIrq ∧
    (clockedApu quarter half a).cycles = a.cycles ∧ (clockedApu quarter half a).sampleCounter = a.sampleCounter ∧
    (clockedApu quarter half a).samples = a.samples := by
  unfold clockedApu
  cases half <;> cases quarter <;> exact ⟨rfl, rfl, rfl, rfl⟩

theorem frameStep_bounds (mode5 : Bool) (k : Nat) :
    1 ≤ frameStep mode5 k ∧ frameStep mode5 k ≤ if mode5 = true then 5 else 4 := by
  unfold frameStep
  cases mode5
  · have := Nat.mod_lt (k - 1) (show 0 < 4 by decide)
    simp
    omega
  · have := Nat.mod_lt (k - 1) (show 0 < 5 by decide)
    simp
    omega

/-- A record with its IRQ flag as it was is the record. -/
theorem frameIrq_same (a : Apu) {irq : Bool} (h : irq = a.frameIrq) : { a with frameIrq := irq } = a := by
  subst h
  rfl

/-- The events of a frame step in the words of what they clock (R735). -/
theorem frameEvents_eq {step : Nat} (a : Apu) (h1 : 1 ≤ step) (hlast : step ≤ if a.mode5 = true then 5 else 4) :
    frameEvents step a = { clockedApu
      (decide ((step = 2 ∨ step = if a.mode5 = true then 5 else 4) ∨ (step = 1 ∨ step = 3)))
      (decide (step = 2 ∨ step = if a.mode5 = true then 5 else 4)) a with
      frameIrq := a.frameIrq || decide (step = 4 ∧ a.mode5 = false ∧ a.irqInhibit = false) } := by
  have hquarter : { quarterFrame a with frameIrq := a.frameIrq || false } = quarterFrame a :=
    frameIrq_same (quarterFrame a) (Bool.or_false _)
  have hboth : { halfFrame (quarterFrame a) with frameIrq := a.frameIrq || false } = halfFrame (quarterFrame a) :=
    frameIrq_same (halfFrame (quarterFrame a)) (Bool.or_false _)
  unfold frameEvents
  cases hmode : a.mode5
  · rw [hmode, if_neg Bool.false_ne_true] at hlast
    obtain rfl | rfl | rfl | rfl : step = 1 ∨ step = 2 ∨ step = 3 ∨ step = 4 := by omega
    · exact hquarter.symm
    · exact hboth.symm
    · exact hquarter.symm
    · cases hirq : a.irqInhibit
      · simp [clockedApu]
      · simpa [clockedApu] using hboth.symm
  · rw [hmode, if_pos rfl] at hlast
    obtain rfl | rfl | rfl | rfl | rfl : step = 1 ∨ step = 2 ∨ step = 3 ∨ step = 4 ∨ step = 5 := by omega
    · exact hquarter.symm
    · exact hboth.symm
    · exact hquarter.symm
    · exact (frameIrq_same a (Bool.or_false _)).symm
    · exact hboth.symm

/-- A tick of the frame sequencer in the words of what it clocks (R735). -/
theorem frameSequencerTick_eq (a : Apu) :
    let f := a.frameCycles + 1
    let last := if a.mode5 = true then 5 else 4
    let step := (f / 7457 - 1) % last + 1
    frameSequencerTick a = { clockedApu
      (decide ((f % 7457 = 0 ∧ (step = 2 ∨ step = last)) ∨ (f % 7457 = 0 ∧ (step = 1 ∨ step = 3))))
      (decide (f % 7457 = 0 ∧ (step = 2 ∨ step = last))) { a with frameCycles := f } with
      frameIrq := a.frameIrq || decide (f % 7457 = 0 ∧ step = 4 ∧ a.mode5 = false ∧ a.irqInhibit = false) } := by
  intro f last step
  have hstep : frameStep a.mode5 (f / 7457) = step := rfl
  obtain ⟨h1, hlast⟩ := frameStep_bounds a.mode5 (f / 7457)
  unfold frameSequencerTick
  by_cases h : f % 7457 = 0
  · simp only [h, true_and]
    exact (if_pos h).trans (frameEvents_eq { a with frameCycles := f } h1 hlast)
  · simp only [h, false_and, or_false, decide_false, Bool.or_false]
    exact if_neg h

/-! ## The sample -/

theorem sampleTick_eq (params : Params) (a : Apu) : sampleTick params a = { a with
    sampleCounter := if a.sampleCounter + 1 = params.samplePeriod then 0 else a.sampleCounter + 1
    samples := if a.sampleCounter + 1 = params.samplePeriod then a.samples ++ [mixedSample params a] else a.samples } := by
  unfold sampleTick
  split <;> rfl

/-- The timers of a tick by channel (R701). -/
theorem channelTimers_eq (params : Params) (a : Apu) : channelTimers params a = { a with
    tri := triangleTimer a.tri
    pulse1 := if a.cycles % 2 = 0 then pulseTimer a.pulse1 else a.pulse1
    pulse2 := if a.cycles % 2 = 0 then pulseTimer a.pulse2 else a.pulse2
    noise := if a.cycles % 2 = 0 then noiseTimer params.noisePeriods a.noise else a.noise } := by
  unfold channelTimers
  split <;> rfl

/-- What a tick adds to the frame sequencer's: it is counted, and at most one sample is appended (R701, R750). -/
theorem apuTickOf_eq (params : Params) (a : Apu) :
    let b := frameSequencerTick (channelTimers params a)
    apuTickOf params a = { b with
      cycles := a.cycles + 1
      sampleCounter := if a.sampleCounter + 1 = params.samplePeriod then 0 else a.sampleCounter + 1
      samples := if a.sampleCounter + 1 = params.samplePeriod then a.samples ++ [mixedSample params b] else a.samples } := by
  intro b
  obtain ⟨hcycles, hcounter, hsamples⟩ : b.cycles = a.cycles ∧ b.sampleCounter = a.sampleCounter ∧
      b.samples = a.samples := by
    unfold b
    rw [channelTimers_eq, frameSequencerTick_eq]
    exact (clockedApu_keeps ..).2
  have hsample : apuTickOf params a = { sampleTick params b with cycles := (sampleTick params b).cycles + 1 } := rfl
  rw [hsample, sampleTick_eq, hcounter, hsamples]
  simp only [hcycles]

/-- `n` ticks append one sample for each `SAMPLE_PERIOD` of them (R750). -/
theorem afterTicks_samples (params : Params) (n : Nat) {a : Apu} (h : a.sampleCounter < params.samplePeriod) :
    ∃ fresh : List Byte, (afterTicks params n a).samples = a.samples ++ fresh ∧
      fresh.length = (a.sampleCounter + n) / params.samplePeriod ∧
      (afterTicks params n a).sampleCounter = (a.sampleCounter + n) % params.samplePeriod := by
  induction n generalizing a with
  | zero => exact ⟨[], (List.append_nil _).symm, (Nat.div_eq_of_lt h).symm, (Nat.mod_eq_of_lt h).symm⟩
  | succ n ih =>
    have hcounter := congrArg Apu.sampleCounter (apuTickOf_eq params a)
    have hsamples := congrArg Apu.samples (apuTickOf_eq params a)
    simp only at hcounter hsamples
    by_cases hfull : a.sampleCounter + 1 = params.samplePeriod
    · rw [if_pos hfull] at hcounter hsamples
      obtain ⟨fresh, hfresh, hlen, hcount⟩ := ih (a := apuTickOf params a) (by omega)
      have hsum : a.sampleCounter + (n + 1) = n + params.samplePeriod := by omega
      refine ⟨mixedSample params (frameSequencerTick (channelTimers params a)) :: fresh, ?_, ?_, ?_⟩
      · rw [afterTicks, hfresh, hsamples, List.append_assoc, List.singleton_append]
      · rw [List.length_cons, hlen, hcounter, hsum, Nat.zero_add, Nat.add_div_right n (by omega)]
      · rw [afterTicks, hcount, hcounter, hsum, Nat.zero_add, Nat.add_mod_right]
    · rw [if_neg hfull] at hcounter hsamples
      obtain ⟨fresh, hfresh, hlen, hcount⟩ := ih (a := apuTickOf params a) (by omega)
      have hsum : a.sampleCounter + (n + 1) = a.sampleCounter + 1 + n := by omega
      refine ⟨fresh, ?_, ?_, ?_⟩
      · rw [afterTicks, hfresh, hsamples]
      · rw [hlen, hcounter, hsum]
      · rw [afterTicks, hcount, hcounter, hsum]

end Sys2Proof.Machine

namespace Sys2Proof.Proofs

open Sys2Proof.Machine

/-- Settles O59. -/
theorem sampleRate : Obligations.SampleRate := by
  intro params n a pulse tri noise f last step half quarter irq timed clocked t volume duty muted pulseOut triOut noiseOut
  refine ⟨?tick, afterTicks_samples params n⟩
  case tick =>
    have hpulse : ∀ c, (if a.cycles % 2 = 0 then pulseTimer c else c) = pulse c := fun c => by
      rw [pulseTimer_eq]
      by_cases h : a.cycles % 2 = 1
      · rw [if_neg (by omega)]
        exact (if_pos h).symm
      · rw [if_pos (by omega)]
        exact (if_neg h).symm
    have hnoise : ∀ c, (if a.cycles % 2 = 0 then noiseTimer params.noisePeriods c else c) = noise c := fun c => by
      rw [noiseTimer_eq]
      by_cases h : a.cycles % 2 = 1
      · rw [if_neg (by omega)]
        exact (if_pos h).symm
      · rw [if_pos (by omega)]
        exact (if_neg h).symm
    have htri : ∀ c, triangleTimer c = tri c := triangleTimer_eq
    have htimers : channelTimers params a = { a with
        pulse1 := pulse a.pulse1, pulse2 := pulse a.pulse2, tri := tri a.tri, noise := noise a.noise } := by
      rw [channelTimers_eq, hpulse, hpulse, hnoise, htri]
    have hframe : frameSequencerTick (channelTimers params a) = { t with frameIrq := a.frameIrq || decide irq } := by
      rw [htimers]
      refine (frameSequencerTick_eq _).trans (congrArg (fun b : Apu => { b with frameIrq := a.frameIrq || decide irq }) ?_)
      exact clockedApu_decide quarter half timed
    have hmixed : mixedSample params { t with frameIrq := a.frameIrq || decide irq } =
        Config.mix (pulseOut t.pulse1) (pulseOut t.pulse2) triOut noiseOut := by
      rw [mixedSample, pulseAmp_eq, pulseAmp_eq, triangleAmp_eq, noiseAmp_eq]
    rw [apuTickOf_eq, hframe, hmixed]

end Sys2Proof.Proofs
end

section
/-! PROOF. Dots with rendering off: none faults, and each draws the backdrop (R666, R667, R900). -/

namespace Sys2Proof.Machine

/-! ## The palette draws -/

/-- A palette byte is the 6-bit draw (R50). -/
theorem cellRead_paletteBytes (pal : Cells 6) (k : Nat) :
    cellRead (paletteBytes pal) k = (cellRead pal k).setWidth 8 := by
  induction pal with
  | nil => rfl
  | cons e pal ih =>
    obtain ⟨a, v⟩ := e
    change (if a = k then v.setWidth 8 else cellRead (paletteBytes pal) k) =
      (if a = k then v else cellRead pal k).setWidth 8
    split
    · rfl
    · exact ih

theorem cellRead_paletteBytes_toNat (pal : Cells 6) (k : Nat) :
    (cellRead (paletteBytes pal) k).toNat = (cellRead pal k).toNat := by
  have := (cellRead pal k).isLt
  rw [cellRead_paletteBytes, BitVec.toNat_setWidth, Nat.mod_eq_of_lt (by omega)]

/-! ## Dots with rendering off -/

section
variable {s : State}

theorem renderingOff (hmask : s.ppu.mask = 0) : ¬ renderingOn s.ppu = true := by
  rw [renderingOn_iff, hmask]
  decide

theorem composeEntry_off (h : ¬ renderingOn s.ppu = true) (l d : Nat) : composeEntry s l d = (0, s.ppu.s0line) := by
  simp only [composeEntry, if_neg h]

/-- With rendering off and a backdrop below $40 no dot faults (R666, R667). -/
theorem ppuDot_off (hmask : s.ppu.mask = 0) (hpal : (cellRead s.ppu.pal 0).toNat < 64) (hf : s.fault = none) :
    (ppuDot s).fault = none := by
  apply ppuDot_fault_none
  by_cases hvis : s.ppu.scanline ≤ 239 ∧ s.ppu.dot ≤ 255
  · obtain ⟨o, ls, heff⟩ := evaluated_effect s
    have hoff : ¬ renderingOn (evaluated s).ppu = true := renderingOff (by rw [heff]; exact hmask)
    rw [dotPixel_visible hvis.1 hvis.2, composePixel_drawn, heff]
    · exact hf
    · rw [composeEntry_off hoff, heff]
      exact hpal
  · rw [dotPixel_idle hvis]
    exact hf

/-- What no dot changes of the PPU: the registers the ports write, and the memories but the framebuffer. -/
def Ppu.sameMemories (p q : Ppu) : Prop :=
  q.ctrl = p.ctrl ∧ q.mask = p.mask ∧ q.nt = p.nt ∧ q.pal = p.pal ∧ q.oam = p.oam

theorem ppuDot_sameMemories (s : State) : s.ppu.sameMemories (ppuDot s).ppu := by
  obtain ⟨p, f, h, hctrl, hmask, -, -, -, -, -, hnt, hpal, hoam⟩ := ppuDot_effect s
  rw [h]
  exact ⟨hctrl, hmask, hnt, hpal, hoam⟩

theorem afterDots_sameMemories (n : Nat) (s : State) : s.ppu.sameMemories (afterDots n s).ppu := by
  induction n generalizing s with
  | zero => exact ⟨rfl, rfl, rfl, rfl, rfl⟩
  | succ n ih =>
    obtain ⟨h1, h2, h3, h4, h5⟩ := ppuDot_sameMemories s
    obtain ⟨k1, k2, k3, k4, k5⟩ := ih (ppuDot s)
    exact ⟨k1.trans h1, k2.trans h2, k3.trans h3, k4.trans h4, k5.trans h5⟩

/-- The devices advance with rendering off without a fault. -/
theorem advanceDevices_off (n : Nat) (hmask : s.ppu.mask = 0) (hpal : (cellRead s.ppu.pal 0).toNat < 64)
    (hf : s.fault = none) : (advanceDevices n s).fault = none := by
  have hkeep : (advanceDevices n s).ppu.mask = 0 ∧ (cellRead (advanceDevices n s).ppu.pal 0).toNat < 64 ∧
      (advanceDevices n s).fault = none :=
    advanceDevices_preserved (P := fun t => t.ppu.mask = 0 ∧ (cellRead t.ppu.pal 0).toNat < 64 ∧ t.fault = none)
      (fun t ⟨hm, hp, hf⟩ => by
        obtain ⟨-, hmask', -, hpal', -⟩ := ppuDot_sameMemories t
        exact ⟨hmask'.trans hm, by rw [hpal']; exact hp, ppuDot_off hm hp hf⟩)
      (fun _ ht => ht) n ⟨hmask, hpal, hf⟩
  exact hkeep.2.2

/-- A dot of line 0 with rendering off draws the backdrop and advances (R667). -/
theorem ppuDot_blank (hmask : s.ppu.mask = 0) (hpal : (cellRead s.ppu.pal 0).toNat < 64) (hf : s.fault = none)
    (hline : s.ppu.scanline = 0) (hdot : s.ppu.dot < 255) (hsprites : s.ppu.lineSprites = []) : ppuDot s =
      { s with ppu := { s.ppu with
        dot := s.ppu.dot + 1
        fb := cellWrite s.ppu.fb s.ppu.dot (BitVec.ofNat 6 (cellRead s.ppu.pal 0).toNat) } } := by
  have hoff := renderingOff hmask
  have heval : evaluated s = s := by
    have hlist : { s.ppu with lineSprites := [] } = s.ppu := by rw [← hsprites]
    unfold evaluated
    split
    · rw [evaluateSprites_off _ _ hoff, hlist]
    · rfl
  have hbit : s.ppu.mask.getLsbD 0 = false := by rw [hmask]; rfl
  have hpixel : dotPixel s = { s with ppu := { s.ppu with
      fb := cellWrite s.ppu.fb s.ppu.dot (BitVec.ofNat 6 (cellRead s.ppu.pal 0).toNat) } } := by
    rw [dotPixel_visible (by omega) (by omega), heval, composePixel_drawn (by rw [composeEntry_off hoff]; exact hpal),
      composeEntry_off hoff, hline, hbit]
    simp
  have hevents : ∀ p : Ppu, dotEvents s.params s.ppu.scanline s.ppu.dot (renderingOn s.ppu) p = p := fun p => by
    have hd : s.ppu.dot ≠ 257 := by omega
    simp [dotEvents, hline, hd, hoff]
  have hadvance : ∀ p : Ppu, p.dot = s.ppu.dot → advanceDot p = { p with dot := s.ppu.dot + 1 } := fun p hp => by
    rw [advanceDot, hp, if_neg (by omega)]
  rw [ppuDot_next (by rw [hpixel]; exact hf), hevents, hadvance _ (by rw [hpixel]), hpixel]
  rfl

/-- `n` such dots draw `n` pixels of the backdrop (R640, R667). -/
theorem afterDots_blank {n : Nat} (hmask : s.ppu.mask = 0) (hpal : (cellRead s.ppu.pal 0).toNat < 64)
    (hf : s.fault = none) (hline : s.ppu.scanline = 0) (hdot : s.ppu.dot + n ≤ 255) (hsprites : s.ppu.lineSprites = []) :
    ∃ fb, afterDots n s = { s with ppu := { s.ppu with dot := s.ppu.dot + n, fb := fb } } ∧
      ∀ m, cellRead fb m = if s.ppu.dot ≤ m ∧ m < s.ppu.dot + n then BitVec.ofNat 6 (cellRead s.ppu.pal 0).toNat
        else cellRead s.ppu.fb m := by
  induction n generalizing s with
  | zero =>
    refine ⟨s.ppu.fb, rfl, fun m => ?_⟩
    rw [if_neg (by omega)]
  | succ n ih =>
    have hblank := ppuDot_blank hmask hpal hf hline (by omega) hsprites
    rw [afterDots, hblank]
    obtain ⟨fb, hstate, hread⟩ := ih (s := { s with ppu := { s.ppu with
      dot := s.ppu.dot + 1
      fb := cellWrite s.ppu.fb s.ppu.dot (BitVec.ofNat 6 (cellRead s.ppu.pal 0).toNat) } })
      hmask hpal hf hline (by simp only; omega) hsprites
    refine ⟨fb, ?_, fun m => ?_⟩
    · rw [hstate]
      simp only [Nat.add_assoc, Nat.add_comm 1 n]
    · rw [hread, cellRead_write]
      simp only
      by_cases hm : m = s.ppu.dot
      · rw [if_neg (by omega), if_pos hm, if_pos (by omega)]
      · rw [if_neg hm]
        exact if_congr (by omega) rfl rfl

end

end Sys2Proof.Machine
end

section
/-! PROOF. The power-on: its ticks, the mapper it chooses, its vector (R900, R901, R903, R506). -/

namespace Sys2Proof.Machine

/-! ## Ticks from reset -/

/-- The APU `n` ticks after reset, before the first frame step ends. -/
def coldApu (seq : BitVec 3) (noise : Noise) (n counter : Nat) (samples : List Byte) : Apu :=
  { Apu.reset with
    pulse1 := { Pulse.reset with seq := seq }, pulse2 := { Pulse.reset with seq := seq }, noise := noise
    frameCycles := n, cycles := n, sampleCounter := counter, samples := samples }

/-- A tick inside a frame step counts itself (R735). -/
theorem frameSequencerTick_quiet {a : Apu} (h : ¬ (a.frameCycles + 1) % 7457 = 0) :
    frameSequencerTick a = { a with frameCycles := a.frameCycles + 1 } := if_neg h

section
variable (params : Params) (seq : BitVec 3) (noise : Noise) (counter : Nat) (samples : List Byte)

/-- At an even tick the pulse sequencers step and the noise timer runs (R701, R731, R733). -/
theorem coldApu_even {n : Nat} (heven : n % 2 = 0) (hn : n < 7456) : ∃ counter' samples',
    apuTickOf params (coldApu seq noise n counter samples) =
      coldApu (seq + 1) (noiseTimer params.noisePeriods noise) (n + 1) counter' samples' := by
  have hcycles : (coldApu seq noise n counter samples).cycles % 2 = 0 := heven
  rw [apuTickOf_eq, channelTimers_eq, frameSequencerTick_quiet (by change ¬ (n + 1) % 7457 = 0; omega), if_pos hcycles,
    if_pos hcycles, if_pos hcycles]
  exact ⟨_, _, rfl⟩

/-- At an odd tick nothing steps. -/
theorem coldApu_odd {n : Nat} (hodd : ¬ n % 2 = 0) (hn : n < 7456) : ∃ counter' samples',
    apuTickOf params (coldApu seq noise n counter samples) = coldApu seq noise (n + 1) counter' samples' := by
  have hcycles : ¬ (coldApu seq noise n counter samples).cycles % 2 = 0 := hodd
  rw [apuTickOf_eq, channelTimers_eq, frameSequencerTick_quiet (by change ¬ (n + 1) % 7457 = 0; omega), if_neg hcycles,
    if_neg hcycles, if_neg hcycles]
  exact ⟨_, _, rfl⟩

/-- Two ticks from an even one. -/
theorem coldApu_pair {n : Nat} (heven : n % 2 = 0) (hn : n < 7455) : ∃ counter' samples',
    afterTicks params 2 (coldApu seq noise n counter samples) =
      coldApu (seq + 1) (noiseTimer params.noisePeriods noise) (n + 2) counter' samples' := by
  obtain ⟨c1, s1, h1⟩ := coldApu_even params seq noise counter samples heven (by omega)
  obtain ⟨c2, s2, h2⟩ := coldApu_odd params (seq + 1) (noiseTimer params.noisePeriods noise) c1 s1 (n := n + 1) (by omega)
    (by omega)
  exact ⟨c2, s2, by rw [afterTicks, afterTicks, afterTicks, h1, h2]⟩

end

/-- The noise channel after the four even ticks of the reset sequence. -/
def coldNoise (periods : List Nat) : Noise := (noiseTimer periods)^[4] Noise.reset

/-- The reset sequence's seven ticks (R900). -/
theorem afterTicks_seven (params : Params) : ∃ counter samples,
    afterTicks params 7 Apu.reset = coldApu 4 (coldNoise params.noisePeriods) 7 counter samples := by
  obtain ⟨c2, s2, h2⟩ := coldApu_pair params 0 Noise.reset 0 [] (n := 0) rfl (by omega)
  obtain ⟨c4, s4, h4⟩ := coldApu_pair params 1 (noiseTimer params.noisePeriods Noise.reset) c2 s2 (n := 2) rfl (by omega)
  obtain ⟨c6, s6, h6⟩ := coldApu_pair params 2 ((noiseTimer params.noisePeriods)^[2] Noise.reset) c4 s4 (n := 4) rfl
    (by omega)
  obtain ⟨c7, s7, h7⟩ := coldApu_even params 3 ((noiseTimer params.noisePeriods)^[3] Noise.reset) c6 s6 (n := 6) rfl
    (by omega)
  refine ⟨c7, s7, ?_⟩
  calc afterTicks params 7 Apu.reset
      = apuTickOf params (afterTicks params 2 (afterTicks params 2 (afterTicks params 2
          (coldApu 0 Noise.reset 0 0 [])))) := rfl
    _ = apuTickOf params (afterTicks params 2 (afterTicks params 2
          (coldApu 1 (noiseTimer params.noisePeriods Noise.reset) 2 c2 s2))) := by rw [h2]; rfl
    _ = apuTickOf params (afterTicks params 2
          (coldApu 2 ((noiseTimer params.noisePeriods)^[2] Noise.reset) 4 c4 s4)) := by rw [h4]; rfl
    _ = apuTickOf params (coldApu 3 ((noiseTimer params.noisePeriods)^[3] Noise.reset) 6 c6 s6) := by rw [h6]; rfl
    _ = coldApu 4 (coldNoise params.noisePeriods) 7 c7 s7 := h7

/-- The noise timer changes the timer and the shift register (R733). -/
theorem noiseTimer_effect (periods : List Nat) (n : Noise) :
    ∃ timer lfsr, noiseTimer periods n = { n with timer := timer, lfsr := lfsr } := by
  unfold noiseTimer
  split
  · exact ⟨_, _, rfl⟩
  · exact ⟨_, n.lfsr, rfl⟩

theorem coldNoise_effect (periods : List Nat) : ∃ timer lfsr,
    coldNoise periods = { Noise.reset with timer := timer, lfsr := lfsr } := by
  have hiter : ∀ k, ∃ timer lfsr, (noiseTimer periods)^[k] Noise.reset = { Noise.reset with timer := timer, lfsr := lfsr } := by
    intro k
    induction k with
    | zero => exact ⟨_, _, rfl⟩
    | succ k ih =>
      obtain ⟨timer, lfsr, h⟩ := ih
      obtain ⟨timer', lfsr', h'⟩ := noiseTimer_effect periods { Noise.reset with timer := timer, lfsr := lfsr }
      exact ⟨timer', lfsr', by rw [Function.iterate_succ_apply', h, h']⟩
  exact hiter 4

/-- With a first noise period of 2 the shift register has stepped twice (R733). -/
theorem coldNoise_two {periods : List Nat} (h : periods.head? = some 2) :
    (coldNoise periods).timer = 0 ∧ (coldNoise periods).lfsr = 0x2000 := by
  obtain ⟨rest, rfl⟩ := List.head?_eq_some_iff.mp h
  have hreload : ∀ t l, t = 0 → noiseTimer (2 :: rest) { Noise.reset with timer := t, lfsr := l } =
      { Noise.reset with timer := BitVec.ofNat 12 2 - 1, lfsr := lfsrNext false l } := fun _ _ h => if_pos h
  have hcount : ∀ t l, t ≠ 0 → noiseTimer (2 :: rest) { Noise.reset with timer := t, lfsr := l } =
      { Noise.reset with timer := t - 1, lfsr := l } := fun _ _ h => if_neg h
  have hfour : coldNoise (2 :: rest) =
      { Noise.reset with timer := BitVec.ofNat 12 2 - 1 - 1, lfsr := lfsrNext false (lfsrNext false 1) } := by
    change noiseTimer _ (noiseTimer _ (noiseTimer _ (noiseTimer _ { Noise.reset with timer := 0, lfsr := 1 }))) = _
    rw [hreload _ _ rfl, hcount _ _ (by decide), hreload _ _ (by decide), hcount _ _ (by decide)]
  rw [hfour]
  exact ⟨by decide, by decide⟩

/-! ## The reset sequence -/

/-- The mapper of a good cartridge, in its reset state (R48, R161). -/
theorem chooseMapper_ok {c : Cartridge} (hid : c.mapperId.toNat < 4) (hprg : 0 < c.nPrg) : ∃ m, chooseMapper c = .ok m ∧
    (∀ n, prgBank m n true = n - 1) ∧
    (c.mapperId.toNat = 0 → m = .nrom) ∧ (c.mapperId.toNat = 2 → m = .unrom 0) ∧ (c.mapperId.toNat = 3 → m = .cnrom 0) ∧
    (c.mapperId.toNat = 1 → m = .mmc1 mmc1Reset) := by
  unfold chooseMapper
  rw [if_neg (by omega), if_neg (by omega)]
  by_cases h0 : c.mapperId.toNat = 0
  · exact ⟨_, if_pos h0, fun _ => rfl, fun _ => rfl, by omega, by omega, by omega⟩
  rw [if_neg h0]
  by_cases h1 : c.mapperId.toNat = 1
  · exact ⟨_, if_pos h1, fun _ => rfl, by omega, by omega, by omega, fun _ => rfl⟩
  rw [if_neg h1]
  by_cases h2 : c.mapperId.toNat = 2
  · exact ⟨_, if_pos h2, fun _ => rfl, by omega, fun _ => rfl, by omega, by omega⟩
  rw [if_neg h2]
  exact ⟨_, rfl, fun _ => rfl, by omega, by omega, fun _ => rfl, by omega⟩

theorem chooseMapper_badId {c : Cartridge} (h : 4 ≤ c.mapperId.toNat) :
    chooseMapper c = .error (.unsupportedMapper c.mapperId) := if_pos h

theorem chooseMapper_noPrg {c : Cartridge} (hid : c.mapperId.toNat < 4) (h : c.nPrg = 0) :
    chooseMapper c = .error .noPrg := by
  rw [chooseMapper, if_neg (by omega), if_pos h]

section
variable {p : Params} {c : Cartridge} {d : Draws}

theorem powerOn_error {r : LoadReason} (h : chooseMapper c = .error r) :
    powerOn p c d = raise (.loadError r) (coldState p c .absent d) := by
  rw [powerOn, h]

/-- The word at $FFFC of the last PRG bank (R900, R903). -/
def resetWord (c : Cartridge) : Word := wordOf (prgByte c (c.nPrg - 1) 0x3FFC) (prgByte c (c.nPrg - 1) 0x3FFD)

/-- The cold state with its vector read and its cycles counted, before they are mirrored (R900). -/
def resetStart (p : Params) (c : Cartridge) (m : Mapper) (d : Draws) : State :=
  { coldState p c m d with
    cpu := { (coldState p c m d).cpu with pc := resetWord c, lastPC := resetWord c }
    cycles := p.resetCycles }

theorem powerOn_ok {m : Mapper} (h : chooseMapper c = .ok m) (hbank : ∀ n, prgBank m n true = n - 1) :
    powerOn p c d = advanceDevices p.resetCycles (resetStart p c m d) := by
  have hlow : prgRead (coldState p c m d) resetVector.toNat = prgByte c (c.nPrg - 1) 0x3FFC :=
    congrArg (fun b => prgByte c b 0x3FFC) (hbank c.nPrg)
  have hhigh : prgRead (coldState p c m d) (resetVector + 1).toNat = prgByte c (c.nPrg - 1) 0x3FFD :=
    congrArg (fun b => prgByte c b 0x3FFD) (hbank c.nPrg)
  have hcycles : 0 + p.resetCycles - 0 = p.resetCycles := by omega
  rw [powerOn, h]
  simp only [resetSequence, memRead16_rom (coldState p c m d) (show 0x8000 ≤ resetVector.toNat by decide)
    (show 0x8000 ≤ (resetVector + 1).toNat by decide), hlow, hhigh]
  change advanceDevices (0 + p.resetCycles - 0) _ = _
  rw [hcycles]
  refine congrArg (advanceDevices p.resetCycles) ?_
  change State.withCycles _ (0 + p.resetCycles) = _
  rw [Nat.zero_add]
  rfl

/-- The mirrored reset cycles change the PPU and the APU alone: no dot faults (R900, R901). -/
theorem advance_resetStart (p : Params) (c : Cartridge) (m : Mapper) (d : Draws) :
    advanceDevices p.resetCycles (resetStart p c m d) =
      ((resetStart p c m d).withPpu (afterDots (3 * p.resetCycles) (resetStart p c m d)).ppu).withApu
        (afterTicks p p.resetCycles Apu.reset) := by
  have hpal : (cellRead (resetStart p c m d).ppu.pal 0).toNat < 64 := by
    have hbyte : (cellRead (paletteBytes d.pal) 0).toNat = (cellRead d.pal 0).toNat := cellRead_paletteBytes_toNat d.pal 0
    exact hbyte ▸ (cellRead d.pal 0).isLt
  exact (advanceDevices_eq (advanceDevices_off p.resetCycles rfl hpal rfl)).1

/-- The 21 dots of seven reset cycles (R640, R667). -/
theorem afterDots_resetStart (p : Params) (c : Cartridge) (m : Mapper) (d : Draws) : ∃ fb,
    afterDots 21 (resetStart p c m d) =
      (resetStart p c m d).withPpu { Ppu.reset d.nt (paletteBytes d.pal) d.oam fb with dot := 21 } ∧
    ∀ n, cellRead fb n = if n < 21 then cellRead d.pal 0 else cellRead d.fb n := by
  have hbyte : (cellRead (paletteBytes d.pal) 0).toNat = (cellRead d.pal 0).toNat := cellRead_paletteBytes_toNat d.pal 0
  have hpal : (cellRead (resetStart p c m d).ppu.pal 0).toNat < 64 := hbyte ▸ (cellRead d.pal 0).isLt
  obtain ⟨fb, hstate, hread⟩ := afterDots_blank (s := resetStart p c m d) (n := 21) rfl hpal rfl rfl
    (show 0 + 21 ≤ 255 by decide) rfl
  refine ⟨fb, hstate, fun n => (hread n).trans ?_⟩
  have hcolour : BitVec.ofNat 6 (cellRead (paletteBytes d.pal) 0).toNat = cellRead d.pal 0 := by
    rw [hbyte, BitVec.ofNat_toNat, BitVec.setWidth_eq]
  have hrange : ((resetStart p c m d).ppu.dot ≤ n ∧ n < (resetStart p c m d).ppu.dot + 21) ↔ n < 21 := by
    change (0 ≤ n ∧ n < 0 + 21) ↔ n < 21
    omega
  exact if_congr hrange hcolour rfl

/-- The sample counter and the samples after seven ticks from reset (R750). -/
theorem afterTicks_seven_samples {p : Params} (h : 7 < p.samplePeriod) :
    (afterTicks p 7 Apu.reset).sampleCounter = 7 ∧ (afterTicks p 7 Apu.reset).samples = [] := by
  obtain ⟨fresh, hsamples, hlen, hcounter⟩ := afterTicks_samples p 7 (a := Apu.reset)
    (show 0 < p.samplePeriod by omega)
  have hcount : Apu.reset.sampleCounter + 7 = 7 := rfl
  rw [hcount, Nat.div_eq_of_lt h] at hlen
  rw [hcount, Nat.mod_eq_of_lt h] at hcounter
  exact ⟨hcounter, hsamples.trans (List.eq_nil_of_length_eq_zero hlen)⟩

end

end Sys2Proof.Machine

namespace Sys2Proof.Proofs

open Sys2Proof.Machine

/-- Settles O60: a bad cartridge is refused; otherwise the cold state with its vector is mirrored without a fault. -/
theorem powerOn : Obligations.PowerOn := by
  intro p c d s
  refine ⟨fun hid hprg => ?badId, fun hid hprg => ?noPrg, fun hbad => ?step, fun hid hprg => ?good⟩
  case badId =>
    change (Machine.powerOn p c d).fault = _
    rw [powerOn_error (chooseMapper_badId hid)]
    rfl
  case noPrg =>
    change (Machine.powerOn p c d).fault = _
    rw [powerOn_error (chooseMapper_noPrg hid hprg)]
    rfl
  case step =>
    obtain ⟨r, hr⟩ : ∃ r, chooseMapper c = .error r := by
      by_cases hid : 4 ≤ c.mapperId.toNat
      · exact ⟨_, chooseMapper_badId hid⟩
      · exact ⟨_, chooseMapper_noPrg (by omega) (hbad.resolve_left hid)⟩
    refine ⟨r, ?_⟩
    change Machine.step (Machine.powerOn p c d) = _
    rw [powerOn_error hr]
    rfl
  case good =>
    intro env pulse tri noise ppu vector
    obtain ⟨m, hm, hbank, h0, h2, h3, h1⟩ := chooseMapper_ok hid hprg
    have hs : s = ((resetStart p c m d).withPpu (afterDots (3 * p.resetCycles) (resetStart p c m d)).ppu).withApu
        (afterTicks p p.resetCycles Apu.reset) := (powerOn_ok hm hbank).trans (advance_resetStart p c m d)
    obtain ⟨-, -, hnt, hpal, hoam⟩ := afterDots_sameMemories (3 * p.resetCycles) (resetStart p c m d)
    clear_value s
    refine ⟨?_, ?_, ?_, ?_, ?_, ?_, ?_, fun k => ?_, ?_, ?_, ?_, ?_, ?_, fun hrc => ?zero, fun hrc => ?seven⟩
    · rw [hs]; exact ⟨rfl, rfl, rfl, rfl, rfl, rfl⟩
    · rw [hs]; rfl
    · rw [hs]; rfl
    · rw [hs]; rfl
    · rw [hs]; rfl
    · rw [hs]; exact hnt
    · rw [hs]; exact hoam
    · rw [hs]
      exact (congrArg (fun pal : Memory => (cellRead pal k).toNat) hpal).trans (cellRead_paletteBytes_toNat d.pal k)
    · rw [hs]; rfl
    · rw [hs]; exact h0
    · rw [hs]; exact h2
    · rw [hs]; exact h3
    · rw [hs]; exact h1
    case zero =>
      rw [hrc] at hs
      rw [hs]
      exact ⟨rfl, rfl, rfl⟩
    case seven =>
      obtain ⟨fb, hdots, hfb⟩ := afterDots_resetStart p c m d
      obtain ⟨counter, samples, hticks⟩ := afterTicks_seven p
      obtain ⟨timer, lfsr, hnoise⟩ := coldNoise_effect p.noisePeriods
      rw [hrc, hdots] at hs
      refine ⟨by rw [hs]; rfl, by rw [hs]; rfl, fun n => by rw [hs]; exact hfb n, ?_, fun hperiod => ?_, fun htwo => ?_⟩
      · rw [hs, hticks, hnoise]
        rfl
      · rw [hs]
        exact afterTicks_seven_samples hperiod
      · rw [hs, hticks]
        exact coldNoise_two htwo

end Sys2Proof.Proofs
end
